-- ==== Sys2Proof/Word.lean ====
section
/-! DEFINITION. The byte, the one word width the source itself fixes (00_scope R6, 20_memory R47). -/

namespace Sys2Proof

/-- One byte: a payload byte, the shift register, a code register (20_memory R47). -/
abbrev Byte := BitVec 8

end Sys2Proof
end

