-- ==== Sys2Proof/Config.lean ====
section
/-! DEFINITION. What an implementation fixes (00_scope R6) and the free values (00_scope R8, `draw`): constants
without a body, so that nothing can be proved of their values. -/

namespace Sys2Proof

/-- Who takes a step: the host, the sequencer and the peripheral (00_scope R5), and the environment, whose one
action is `INJECT` (60_exceptions R147). The slave takes no step: it is an oracle (42_peripheral_primitives R121). -/
inductive Agent where
  | host | sequencer | peripheral | environment
deriving DecidableEq, Repr, Inhabited

/-- The two values of the switch `ZERO_LEN_CHECK`: where `prepareTransfer` tests `LEN = 0` (00_scope R6,
41_sequencer_steps R97 with its case (c), 90_conflicts C2). `State.zeroLenCheck` holds the setting (log 12). -/
inductive ZeroLenCheck where
  | everyCall | payloadPhaseOnly
deriving DecidableEq, Repr

namespace Config

/-- What `ADDR_W` has beyond its least admitted value. OPEN (00_scope R6, D4; log 1). -/
opaque addrSpare : Nat
/-- What `LEN_W` has beyond its least admitted value. OPEN (00_scope R6, D4; log 1). -/
opaque lenSpare : Nat
/-- What `WAKE_W` has beyond its least admitted value. OPEN (00_scope R6, D4; log 1). -/
opaque wakeSpare : Nat
/-- What `CLKDIV_W` has beyond its least admitted value. OPEN (00_scope R6, D4; log 1). -/
opaque clkdivSpare : Nat
/-- What `CLKSRC_W` has beyond its least admitted value. OPEN (00_scope R6, D4; log 1). -/
opaque clksrcSpare : Nat

/-- `ADDR_W`, the width of a payload address: any width of at least 1 (D4). -/
def addrW : Nat := addrSpare + 1
/-- `LEN_W`, the width of `payloadLength`: any width of at least 1 (D4). -/
def lenW : Nat := lenSpare + 1
/-- `WAKE_W`, the width of `wakeupMask`: any width of at least 1 (D4). -/
def wakeW : Nat := wakeSpare + 1
/-- `CLKDIV_W` (D4). -/
def clkdivW : Nat := clkdivSpare + 1
/-- `CLKSRC_W` (D4). -/
def clksrcW : Nat := clksrcSpare + 1

/-- `DEV_ADDR7`, the 7-bit I2C address, a configuration constant. OPEN (10_state R17, D5). -/
opaque devAddr7 : BitVec 7

/-- `WAIT_ATOMIC`: whether check-idle-then-sleep is one host step. OPEN (43_command_layer R135, D17). -/
opaque waitAtomic : Bool

/-- `IRQ_VECTOR`: read by no rule. OPEN (20_memory R48, D28). -/
opaque irqVector : Nat

/-- A mask of which `clWakeMask` takes every value but 0. -/
opaque clWakeMaskFree : BitVec wakeW
/-- `CL_WAKE_MASK`, the Command Layer's wake-up mask. OPEN, non-zero (43_command_layer R130, D27). -/
def clWakeMask : BitVec wakeW := if clWakeMaskFree = 0#wakeW then 1#wakeW else clWakeMaskFree

/-- An address of which `clTmp` takes every value but the last one. -/
opaque clTmpFree : BitVec addrW
/-- `CL_TMP`, the Command Layer's scratch area. OPEN (43_command_layer R130, D27). The area is 2 bytes, so it does
not start at the last address of the space (DEDUCED, log 1). -/
def clTmp : BitVec addrW := if clTmpFree = BitVec.allOnes addrW then 0#addrW else clTmpFree

/-- `slaveAnswer(i)`: the slave's answer to the `i`-th ACK slot since reset, `true` for NACK
(42_peripheral_primitives R121). A draw: no law. -/
opaque slaveAnswer : Nat → Bool

/-- `draw(byte)`: what the shift register holds where the spec leaves all of it unspecified
(41_sequencer_steps R96, 42_peripheral_primitives R117 and R120). -/
opaque freeByte : Nat → Byte

/-- `draw(7 bits)`: `SR[7:1]` after an ACK slot (42_peripheral_primitives R120). -/
opaque freeSevenBits : Nat → BitVec 7

/-- Which agent moves next where `State.sched` does not say (20_memory R50, 60_exceptions R144; log 5). -/
opaque freeAgent : Nat → Agent

/-- What the host's memory holds at an address that nothing has written in the model (93 U5; log 3). -/
opaque unwrittenByte : Nat → Byte

end Config

/-- A payload memory address, `ADDR_W` bits (10_state R12). -/
abbrev Addr := BitVec Config.addrW
/-- A payload length, `LEN_W` bits (10_state R13). -/
abbrev Len := BitVec Config.lenW
/-- A wake-up mask or sleep condition, `WAKE_W` bits (10_state R15, R30). -/
abbrev WakeMask := BitVec Config.wakeW
/-- The clock divider argument of `INIT` (10_state R29). -/
abbrev ClkDiv := BitVec Config.clkdivW
/-- The clock source argument of `INIT` (10_state R29). -/
abbrev ClkSrc := BitVec Config.clksrcW

end Sys2Proof
end

