-- ==== Sys2Proof/Syntax.lean ====
section
/-! DEFINITION. The operation set (00_scope R4, 30_encoding R71): one constructor for each of the 27 rows of
spec/opcode_table.json. A one-bit operand is a `Bool`, `true` for 1. -/

namespace Sys2Proof

/-- An operation: "a named atomic state transformer performed by one agent" (00_scope R4). -/
inductive Instr where
  /-- `ISIDLE()` (40_host_operations R83). -/
  | isidle
  /-- `INIT(div, src)` (40_host_operations R81). -/
  | init (div : ClkDiv) (src : ClkSrc)
  /-- `SUBMIT(ctrl, ptr, len, rpt, wmask)` (40_host_operations R82). -/
  | submit (ctrl : Byte) (ptr : Addr) (len : Len) (rpt : Bool) (wmask : WakeMask)
  /-- `IRQ_IDLE` (41_sequencer_steps R91). -/
  | irqIdle
  /-- `IRQ_START` (41_sequencer_steps R92). -/
  | irqStart
  /-- `IRQ_PREPACK` (41_sequencer_steps R93). -/
  | irqPrepack
  /-- `IRQ_RXTX` (41_sequencer_steps R94). -/
  | irqRxtx
  /-- `IRQ_PREPSTOP` (41_sequencer_steps R95). -/
  | irqPrepstop
  /-- `IRQ_STOP` (41_sequencer_steps R96). -/
  | irqStop
  /-- `XFER_ADDR` (41_sequencer_steps R98). -/
  | xferAddr
  /-- `XFER_CTRL` (41_sequencer_steps R99). -/
  | xferCtrl
  /-- `XFER_PAYLOAD` (41_sequencer_steps R100). -/
  | xferPayload
  /-- `loadShiftRegister(b)` (42_peripheral_primitives R110). -/
  | loadShiftRegister (b : Byte)
  /-- `readShiftRegister()` (42_peripheral_primitives R111). -/
  | readShiftRegister
  /-- `shiftBits(n)` (42_peripheral_primitives R112). -/
  | shiftBits (n : Nat)
  /-- `setOutputEnable(en)` (42_peripheral_primitives R114). -/
  | setOutputEnable (en : Bool)
  /-- `assertStartLatch()` (42_peripheral_primitives R113). -/
  | assertStartLatch
  /-- `raiseInterruptFlag()` (42_peripheral_primitives R115). -/
  | raiseInterruptFlag
  /-- `clearInterruptFlag()` (42_peripheral_primitives R116). -/
  | clearInterruptFlag
  /-- `configurePeripheral(div, src)` (42_peripheral_primitives R117). -/
  | configurePeripheral (div : ClkDiv) (src : ClkSrc)
  /-- `disableInterrupts()` (42_peripheral_primitives R118). -/
  | disableInterrupts
  /-- `enableInterrupts()` (42_peripheral_primitives R119). -/
  | enableInterrupts
  /-- `SHIFT` in the form `(CNT, OE) = (8, 1)` (42_peripheral_primitives R120). -/
  | shiftTx8
  /-- `SHIFT` in the form `(CNT, OE) = (1, 0)` (42_peripheral_primitives R120). -/
  | shiftRx1
  /-- `SHIFT` in the form `(CNT, OE) = (1, 1)` (42_peripheral_primitives R120). -/
  | shiftTx1
  /-- `prepareTransfer()` (41_sequencer_steps R97). -/
  | prepareTransfer
  /-- `prepareStop()` (41_sequencer_steps R101). -/
  | prepareStop
deriving DecidableEq, Repr

end Sys2Proof
end

