-- ==== Sys2Proof/WellFormed.lean ====
section
/-! DEFINITION. The operand values the spec admits: the control byte (30_encoding R66), the payload range
(20_memory R43) and the shift count (30_encoding R67). An operation with other operands still decodes; its meaning
refuses it under the name the spec gives (30_encoding R72). -/

namespace Sys2Proof

/-- A control byte is `COMMAND` = 0x00 or `DATA` = 0x40 (30_encoding R66). -/
def legalControlByte (ctrl : Byte) : Bool := ctrl == 0x00#8 || ctrl == 0x40#8

/-- A sequence-mode payload range that passes the top of the address space (20_memory R43): `rpt = 0`, `len >= 1`
and `ptr + len - 1 >= 2^ADDR_W`. Written for any widths. -/
def payloadWraps {a l : Nat} (ptr : BitVec a) (len : BitVec l) (rpt : Bool) : Bool :=
  !rpt && decide (1 ≤ len.toNat) && decide (2 ^ a ≤ ptr.toNat + len.toNat - 1)

/-- A shift count is 1 or 8 (30_encoding R67). -/
def legalShiftCount (n : Nat) : Bool := n == 1 || n == 8

/-- The operands are ones the spec admits. -/
def Instr.wellFormed : Instr → Bool
  | .submit ctrl ptr len rpt _ => legalControlByte ctrl && !payloadWraps ptr len rpt
  | .shiftBits n => legalShiftCount n
  | .isidle | .init _ _ => true
  | .irqIdle | .irqStart | .irqPrepack | .irqRxtx | .irqPrepstop | .irqStop => true
  | .xferAddr | .xferCtrl | .xferPayload => true
  | .loadShiftRegister _ | .readShiftRegister | .setOutputEnable _ | .assertStartLatch => true
  | .raiseInterruptFlag | .clearInterruptFlag | .configurePeripheral _ _ => true
  | .disableInterrupts | .enableInterrupts => true
  | .shiftTx8 | .shiftRx1 | .shiftTx1 | .prepareTransfer | .prepareStop => true

end Sys2Proof
end

