-- ==== Sys2Proof/Decode.lean ====
section
/-! DEFINITION. The codes that select an operation (30_encoding R60 to R64), the decoder, the encoder and the
opcode table's rows. Every code has a fixed width and its operands travel beside it on ports, "never packed into the
code" (R60). -/

namespace Sys2Proof

/-! ## The codes -/

/-- The two routines that no code selects (30_encoding R64, format `CALL`). -/
inductive Routine where
  | prepareTransfer | prepareStop
deriving DecidableEq, Repr

/-- A code in its format. The formats are code spaces of their own: the same number means different operations in
different formats (30_encoding R60). -/
inductive Code where
  /-- Format `H`: the host command `cmd[1:0]` (R61). -/
  | host (cmd : BitVec 2)
  /-- Format `S`: the register `TSTATE[7:0]` at an interrupt (R62). -/
  | seq (tstate : BitVec 8)
  /-- Format `P`: the register `PHASE[7:0]` inside `prepareTransfer` (R63). -/
  | phase (phase : BitVec 8)
  /-- Format `M`: the primitive selector `prim[3:0]` (R64). -/
  | prim (sel : BitVec 4)
  /-- Format `AGENT`: the tuple of `CNT[3:0]` above `OE` (R64). -/
  | agent (tuple : BitVec 5)
  /-- Format `CALL`: a routine reached by a call, named (R64). -/
  | call (routine : Routine)
deriving DecidableEq, Repr

/-- The operand ports (30_encoding R61, R64; 42_peripheral_primitives R122). -/
structure Ports where
  div : ClkDiv
  src : ClkSrc
  ctrl : Byte
  ptr : Addr
  len : Len
  rpt : Bool
  wmask : WakeMask
  b : Byte
  n : Nat
  en : Bool
deriving DecidableEq, Repr

/-- Every operand port at 0. -/
def Ports.zero : Ports :=
  { div := 0#_, src := 0#_, ctrl := 0#8, ptr := 0#_, len := 0#_, rpt := false, wmask := 0#_, b := 0#8, n := 0, en := false }

/-- A code and what stands on the operand ports beside it. -/
structure OpWord where
  code : Code
  ports : Ports
deriving DecidableEq, Repr

/-! ## The numbers of the two code registers (30_encoding R62, R63) -/

/-- `Idle` (R62). -/
def StateCode.idle : BitVec 8 := 0x00#8
/-- `Start` (R62). -/
def StateCode.start : BitVec 8 := 0x02#8
/-- `PrepareAckNack` (R62). -/
def StateCode.prepareAckNack : BitVec 8 := 0x04#8
/-- `HandleRxTx` (R62). -/
def StateCode.handleRxTx : BitVec 8 := 0x06#8
/-- `PrepareStop` (R62). -/
def StateCode.prepareStop : BitVec 8 := 0x08#8
/-- `Stop` (R62). -/
def StateCode.stop : BitVec 8 := 0x0A#8

/-- `SendAddress` (R63). -/
def PhaseCode.sendAddress : BitVec 8 := 0x00#8
/-- `SendControl` (R63). -/
def PhaseCode.sendControl : BitVec 8 := 0x02#8
/-- `SendPayload` (R63). -/
def PhaseCode.sendPayload : BitVec 8 := 0x04#8

/-! ## The decoder -/

/-- Why a code selects no operation (30_encoding R72; 42_peripheral_primitives R120 for the last two). -/
inductive Reject where
  | reservedHostCommand
  | badStateCode
  | badPhaseCode
  | reservedPrimitive
  | receiveNotSupported
  | badShiftCount
deriving DecidableEq, Repr

/-- Format `H` (30_encoding R61). -/
def decodeHost (cmd : BitVec 2) (p : Ports) : Except Reject Instr :=
  if cmd = 0b00#2 then .ok .isidle
  else if cmd = 0b01#2 then .ok (.init p.div p.src)
  else if cmd = 0b10#2 then .ok (.submit p.ctrl p.ptr p.len p.rpt p.wmask)
  else .error .reservedHostCommand

/-- Format `S` (30_encoding R62): all 8 bits match. -/
def decodeSeq (c : BitVec 8) : Except Reject Instr :=
  if c = StateCode.idle then .ok .irqIdle
  else if c = StateCode.start then .ok .irqStart
  else if c = StateCode.prepareAckNack then .ok .irqPrepack
  else if c = StateCode.handleRxTx then .ok .irqRxtx
  else if c = StateCode.prepareStop then .ok .irqPrepstop
  else if c = StateCode.stop then .ok .irqStop
  else .error .badStateCode

/-- Format `P` (30_encoding R63): all 8 bits match. -/
def decodePhase (c : BitVec 8) : Except Reject Instr :=
  if c = PhaseCode.sendAddress then .ok .xferAddr
  else if c = PhaseCode.sendControl then .ok .xferCtrl
  else if c = PhaseCode.sendPayload then .ok .xferPayload
  else .error .badPhaseCode

/-- Format `M` (30_encoding R64). -/
def decodePrim (sel : BitVec 4) (p : Ports) : Except Reject Instr :=
  if sel = 0x0#4 then .ok (.loadShiftRegister p.b)
  else if sel = 0x1#4 then .ok .readShiftRegister
  else if sel = 0x2#4 then .ok (.shiftBits p.n)
  else if sel = 0x3#4 then .ok (.setOutputEnable p.en)
  else if sel = 0x4#4 then .ok .assertStartLatch
  else if sel = 0x5#4 then .ok .raiseInterruptFlag
  else if sel = 0x6#4 then .ok .clearInterruptFlag
  else if sel = 0x7#4 then .ok (.configurePeripheral p.div p.src)
  else if sel = 0x8#4 then .ok .disableInterrupts
  else if sel = 0x9#4 then .ok .enableInterrupts
  else .error .reservedPrimitive

/-- The tuple of format `AGENT`: `CNT[3:0]` above `OE` (30_encoding R64). -/
def agentTuple (cnt : BitVec 4) (oe : Bool) : BitVec 5 := cnt ++ BitVec.ofBool oe

/-- Format `AGENT` (30_encoding R64, 42_peripheral_primitives R120). -/
def decodeAgent (t : BitVec 5) : Except Reject Instr :=
  if t = 0x11#5 then .ok .shiftTx8
  else if t = 0x02#5 then .ok .shiftRx1
  else if t = 0x03#5 then .ok .shiftTx1
  else if t = 0x10#5 then .error .receiveNotSupported
  else .error .badShiftCount

/-- Format `CALL`. -/
def decodeCall : Routine → Instr
  | .prepareTransfer => .prepareTransfer
  | .prepareStop => .prepareStop

/-- The operation a code selects, its operands taken from the ports as they stand (30_encoding R69, R71, R72). -/
def decode (x : OpWord) : Except Reject Instr :=
  match x.code with
  | .host cmd => decodeHost cmd x.ports
  | .seq c => decodeSeq c
  | .phase c => decodePhase c
  | .prim sel => decodePrim sel x.ports
  | .agent t => decodeAgent t
  | .call r => .ok (decodeCall r)

/-! ## The encoder -/

/-- The code of an operation, and its operands on their ports, every other port at 0 (30_encoding R61 to R64). -/
def encode : Instr → OpWord
  | .isidle => { code := .host 0b00#2, ports := .zero }
  | .init d c => { code := .host 0b01#2, ports := { Ports.zero with div := d, src := c } }
  | .submit c p l r m =>
    { code := .host 0b10#2, ports := { Ports.zero with ctrl := c, ptr := p, len := l, rpt := r, wmask := m } }
  | .irqIdle => { code := .seq 0x00#8, ports := .zero }
  | .irqStart => { code := .seq 0x02#8, ports := .zero }
  | .irqPrepack => { code := .seq 0x04#8, ports := .zero }
  | .irqRxtx => { code := .seq 0x06#8, ports := .zero }
  | .irqPrepstop => { code := .seq 0x08#8, ports := .zero }
  | .irqStop => { code := .seq 0x0A#8, ports := .zero }
  | .xferAddr => { code := .phase 0x00#8, ports := .zero }
  | .xferCtrl => { code := .phase 0x02#8, ports := .zero }
  | .xferPayload => { code := .phase 0x04#8, ports := .zero }
  | .loadShiftRegister v => { code := .prim 0x0#4, ports := { Ports.zero with b := v } }
  | .readShiftRegister => { code := .prim 0x1#4, ports := .zero }
  | .shiftBits m => { code := .prim 0x2#4, ports := { Ports.zero with n := m } }
  | .setOutputEnable e => { code := .prim 0x3#4, ports := { Ports.zero with en := e } }
  | .assertStartLatch => { code := .prim 0x4#4, ports := .zero }
  | .raiseInterruptFlag => { code := .prim 0x5#4, ports := .zero }
  | .clearInterruptFlag => { code := .prim 0x6#4, ports := .zero }
  | .configurePeripheral d c => { code := .prim 0x7#4, ports := { Ports.zero with div := d, src := c } }
  | .disableInterrupts => { code := .prim 0x8#4, ports := .zero }
  | .enableInterrupts => { code := .prim 0x9#4, ports := .zero }
  | .shiftTx8 => { code := .agent 0x11#5, ports := .zero }
  | .shiftRx1 => { code := .agent 0x02#5, ports := .zero }
  | .shiftTx1 => { code := .agent 0x03#5, ports := .zero }
  | .prepareTransfer => { code := .call .prepareTransfer, ports := .zero }
  | .prepareStop => { code := .call .prepareStop, ports := .zero }

/-! ## The opcode table's rows (30_encoding R71) -/

/-- The six row formats of the opcode table. -/
inductive RowFormat where
  | H | S | P | M | AGENT | CALL
deriving DecidableEq, Repr

/-- A row of spec/opcode_table.json: its format and its `match` and `mask` numbers. -/
structure TableRow where
  format : RowFormat
  value : Nat
  mask : Nat
deriving DecidableEq, Repr

/-- The row of an operation, transcribed from spec/opcode_table.json. -/
def Instr.row : Instr → TableRow
  | .isidle => ⟨.H, 0x0, 0x3⟩
  | .init _ _ => ⟨.H, 0x1, 0x3⟩
  | .submit _ _ _ _ _ => ⟨.H, 0x2, 0x3⟩
  | .irqIdle => ⟨.S, 0x00, 0xFF⟩
  | .irqStart => ⟨.S, 0x02, 0xFF⟩
  | .irqPrepack => ⟨.S, 0x04, 0xFF⟩
  | .irqRxtx => ⟨.S, 0x06, 0xFF⟩
  | .irqPrepstop => ⟨.S, 0x08, 0xFF⟩
  | .irqStop => ⟨.S, 0x0A, 0xFF⟩
  | .xferAddr => ⟨.P, 0x00, 0xFF⟩
  | .xferCtrl => ⟨.P, 0x02, 0xFF⟩
  | .xferPayload => ⟨.P, 0x04, 0xFF⟩
  | .loadShiftRegister _ => ⟨.M, 0x0, 0xF⟩
  | .readShiftRegister => ⟨.M, 0x1, 0xF⟩
  | .shiftBits _ => ⟨.M, 0x2, 0xF⟩
  | .setOutputEnable _ => ⟨.M, 0x3, 0xF⟩
  | .assertStartLatch => ⟨.M, 0x4, 0xF⟩
  | .raiseInterruptFlag => ⟨.M, 0x5, 0xF⟩
  | .clearInterruptFlag => ⟨.M, 0x6, 0xF⟩
  | .configurePeripheral _ _ => ⟨.M, 0x7, 0xF⟩
  | .disableInterrupts => ⟨.M, 0x8, 0xF⟩
  | .enableInterrupts => ⟨.M, 0x9, 0xF⟩
  | .shiftTx8 => ⟨.AGENT, 0x11, 0x1F⟩
  | .shiftRx1 => ⟨.AGENT, 0x02, 0x1F⟩
  | .shiftTx1 => ⟨.AGENT, 0x03, 0x1F⟩
  | .prepareTransfer => ⟨.CALL, 0x0, 0x0⟩
  | .prepareStop => ⟨.CALL, 0x0, 0x0⟩

/-- The format of a code. -/
def Code.format : Code → RowFormat
  | .host _ => .H
  | .seq _ => .S
  | .phase _ => .P
  | .prim _ => .M
  | .agent _ => .AGENT
  | .call _ => .CALL

/-- The bits of a code as a number; a `CALL` has none. -/
def Code.bits : Code → Nat
  | .host c => c.toNat
  | .seq c => c.toNat
  | .phase c => c.toNat
  | .prim c => c.toNat
  | .agent c => c.toNat
  | .call _ => 0

/-- A code fits a row: the same format, and the masked bits are the row's `match`. -/
def TableRow.fits (r : TableRow) (c : Code) : Bool :=
  r.format == c.format && c.bits &&& r.mask == r.value

/-! ## The host's question about a table word (log 13)

The formats are code spaces of their own, so a bare number names up to five rows. The formats tried, in this order,
are those whose width the number of bits allows; the first one in which the number is a code answers. -/

/-- The codes a table word of `nbits` bits can be, in the order they are tried. -/
def tableCodes (nbits w : Nat) : List Code :=
  if nbits = 0 then [.call (if w = 0 then .prepareTransfer else .prepareStop)]
  else if nbits ≤ 2 then [.host (BitVec.ofNat 2 w)]
  else if nbits ≤ 4 then [.prim (BitVec.ofNat 4 w)]
  else if nbits = 5 then [.agent (BitVec.ofNat 5 w)]
  else
    (if w < 2 ^ 8 then [.seq (BitVec.ofNat 8 w)] else []) ++
    (if w < 2 ^ 2 then [.host (BitVec.ofNat 2 w)] else []) ++
    (if w < 2 ^ 5 then [.agent (BitVec.ofNat 5 w)] else []) ++
    (if w < 2 ^ 4 then [.prim (BitVec.ofNat 4 w)] else []) ++
    (if w < 2 ^ 8 then [.phase (BitVec.ofNat 8 w)] else [])

/-- The first code of a list that selects an operation, with that operation; its operand ports at 0. -/
def firstDecoded : List Code → Option (OpWord × Instr)
  | [] => none
  | c :: rest =>
    match decode { code := c, ports := .zero } with
    | .ok i => some ({ code := c, ports := .zero }, i)
    | .error _ => firstDecoded rest

/-- The word `withFetchWord` places: the one `decodeTableWord` reads. DESIGN CHOICE (log 13): a number that is no code
of any format it is tried in is placed in the first of them, so that the step meets it as that format's reserved code
(30_encoding R72): 2-bit 0b11 as a host command, 4-bit 0xA to 0xF as a selector, a 5-bit tuple as `CNT` and `OE`, an
8-bit number in `TSTATE`. A number too wide for every format has its low 8 bits in `TSTATE`. -/
def tableWord (nbits w : Nat) : OpWord :=
  match firstDecoded (tableCodes nbits w) with
  | some (x, _) => x
  | none => { code := (tableCodes nbits w).head?.getD (.seq (BitVec.ofNat 8 w)), ports := .zero }

/-- The operation the decoder reads from a word numbered as spec/opcode_table.json numbers it. -/
def decodeTableWord (nbits w : Nat) : Option Instr :=
  match firstDecoded (tableCodes nbits w) with
  | some (_, i) => some i
  | none => none

end Sys2Proof
end

