-- ==== Sys2Proof/Machine/State.lean ====
section
/-! DEFINITION. The state of the machine (10_state R10), why a step can stop (60_exceptions R141), and the state at
reset (10_state R35). -/

namespace Sys2Proof.Machine

/-- An event of the wire trace `W` (10_state R31). `ackbit n` has `n = true` for NACK. -/
inductive WireEvent where
  | start
  | byte (b : Byte)
  | ackbit (n : Bool)
  | stop
deriving DecidableEq, Repr

/-- Host memory (20_memory R40): the written bytes, each with its address, the addresses strictly rising
(`Memory.wf`). An address that is not listed holds no byte that anything wrote (log 3). -/
abbrev Memory := List Host.Cell

/-- One host action still to be taken, each one atomic host step (40_host_operations R80). The Command Layer's
pseudo-operations expand to lists of these (43_command_layer R130). -/
inductive HostAct where
  /-- A format `H` command with its operand ports (30_encoding R61). -/
  | command (cmd : BitVec 2) (ports : Ports)
  /-- A host write of one byte of its own memory (43_command_layer R131; 95 Part 3). -/
  | memWrite (a : Addr) (b : Byte)
  /-- `SLEEP(mask)` (43_command_layer R135). -/
  | sleep (mask : WakeMask)
  /-- `WAITIDLE(mask)` at its step `A` (43_command_layer R135). -/
  | waitIdle (mask : WakeMask)
  /-- `WAITIDLE(mask)` at its step `B` (43_command_layer R135). -/
  | waitSleep (mask : WakeMask)
deriving DecidableEq, Repr

/-- The machine. The first block is 10_state R10's tuple, name by name; one-bit registers are `Bool`, `true` for 1.
The blocks after it are the boundary's ports, the payload range R43 speaks of, the inputs from outside and the
counter of free values; INVENTORY.md gives each one's rule and reset value. -/
structure State where
  /-- Transaction State, an 8-bit code register (10_state R18). -/
  tstate : BitVec 8
  /-- Transfer Phase, an 8-bit code register (10_state R19). -/
  phase : BitVec 8
  /-- Control byte (10_state R11). -/
  ctrl : Byte
  /-- Payload cursor (10_state R12). -/
  ptr : Addr
  /-- Payload bytes or repeats left to load (10_state R13). -/
  len : Len
  /-- Repeat flag (10_state R14). -/
  rpt : Bool
  /-- Wake-up mask (10_state R15). -/
  wmask : WakeMask
  /-- Shift register; bit 0 is the received ACK bit (10_state R22, R24). -/
  sr : Byte
  /-- Bits commanded and not yet shifted (10_state R25). -/
  cnt : Nat
  /-- Output enable (10_state R26). -/
  oe : Bool
  /-- Start latch control (10_state R27). -/
  ge : Bool
  /-- Interrupt flag (10_state R21). -/
  ifg : Bool
  /-- Interrupt enable (10_state R28). -/
  gie : Bool
  /-- `INIT` has run (10_state R29). -/
  cfg : Bool
  /-- Clock divider, read by no rule (10_state R29). -/
  clkdiv : ClkDiv
  /-- Clock source, read by no rule (10_state R29). -/
  clksrc : ClkSrc
  /-- The conditions the host sleeps in (10_state R30). -/
  sleepcond : WakeMask
  /-- Host memory (20_memory R40). -/
  mem : Memory
  /-- Wire trace `W`, oldest event first (10_state R31). -/
  w : List WireEvent
  /-- Wake log `K`, oldest first (10_state R32). -/
  k : List WakeMask
  /-- ACK slots performed since reset (10_state R33). -/
  nackslot : Nat
  /-- The `idle` result port of `ISIDLE` (30_encoding R61, R70). -/
  idleOut : Bool
  /-- The result of a `readShiftRegister` presented by itself (42_peripheral_primitives R111). -/
  srOut : Byte
  /-- First address of the payload range of the last `SUBMIT` (20_memory R43). -/
  rangeBase : Nat
  /-- How many addresses that payload range has (20_memory R43). -/
  rangeCount : Nat
  /-- Addresses of the host's space that are not plain memory (20_memory R42). -/
  notPlain : List Nat
  /-- The host's actions still to come, next first (40_host_operations R80). -/
  program : List HostAct
  /-- `INJECT` actions the environment still has to take (60_exceptions R147). -/
  injects : Nat
  /-- The slave's answers fixed in advance, by slot number (42_peripheral_primitives R121). -/
  answers : List Bool
  /-- An operation presented by itself, which the next step runs (30_encoding R64, R72). -/
  direct : Option OpWord
  /-- Who takes the next steps, as far as that is fixed in advance (20_memory R50). -/
  sched : List Agent
  /-- How many free values have been drawn (00_scope R8). -/
  draws : Nat
  /-- The switch `ZERO_LEN_CHECK`, which no step changes (00_scope R6, 41_sequencer_steps R97(c); log 12). -/
  zeroLenCheck : ZeroLenCheck
deriving DecidableEq, Repr

/-- What stops the machine with a fault (60_exceptions R141). -/
inductive Fault where
  /-- The sequencer's dispatch, for a `TSTATE` that is none of the six codes (30_encoding R72(b)); safe. -/
  | badStateCode
  /-- `prepareTransfer`, for a `PHASE` that is none of the three codes (30_encoding R72(c)), and a format `P` code
  that is none of them; safe. -/
  | badPhaseCode
deriving DecidableEq, Repr

/-- What the spec gives no meaning and says to refuse (60_exceptions R141). -/
inductive Refusal where
  /-- An arm of `exec` whose instruction has no meaning yet; no arm raises it; safe. -/
  | notModelled (mnemonic : String)
  /-- `INIT` with `CFG = 1` (40_host_operations R81); safe. -/
  | initCalledTwice
  /-- `SUBMIT` with `CFG = 0` (40_host_operations R82); safe. -/
  | submitBeforeInit
  /-- `SUBMIT` with a control byte other than 0x00 and 0x40 (30_encoding R72(d)); safe. -/
  | reservedControlByte
  /-- `SUBMIT` with a range past the top of the address space (20_memory R43); safe. -/
  | payloadWraps
  /-- A payload read at an address that is not plain memory (20_memory R42); safe. -/
  | payloadNotPlainMemory
  /-- A host write into the payload range while `TSTATE != Idle` (20_memory R43); safe. -/
  | payloadMutatedInFlight
  /-- Host command code 0b11 (30_encoding R72(a)); safe. -/
  | reservedHostCommand
  /-- Primitive selectors 0xA to 0xF (30_encoding R72(g)); safe. -/
  | reservedPrimitive
  /-- A shift count that is not 1 or 8: `shiftBits`, and `SHIFT` (30_encoding R72(e), 42 R120); safe. -/
  | badShiftCount
  /-- `SHIFT` with `CNT = 8` and `OE = 0` (30_encoding R72(f)); safe. -/
  | receiveNotSupported
  /-- `loadShiftRegister` with a shift in flight (42_peripheral_primitives R110); safe. -/
  | loadDuringShift
  /-- `INJECT` with `TSTATE != Idle` or `CNT != 0` (60_exceptions R147); safe. -/
  | injectedInterruptInFlight
deriving DecidableEq, Repr

/-- The machine at power-on (10_state R35, 70 R170). The rule fixes `TSTATE`, `CFG`, `SLEEPCOND`, `W`, `K` and
`NACKSLOT`; every other register's value is a DESIGN CHOICE, unsafe (log 2), and the outside's inputs are empty
(logs 3 to 10); `ZERO_LEN_CHECK` is at `every_call`, the value 00_scope R6 takes (log 12). -/
def State.reset : State :=
  { tstate := StateCode.idle, cfg := false, sleepcond := 0#_, w := [], k := [], nackslot := 0
    phase := 0#8, ctrl := 0#8, ptr := 0#_, len := 0#_, rpt := false, wmask := 0#_
    sr := 0#8, cnt := 0, oe := false, ge := false, ifg := false, gie := false, clkdiv := 0#_, clksrc := 0#_
    mem := []
    idleOut := false, srOut := 0#8, rangeBase := 0, rangeCount := 0, notPlain := []
    program := [], injects := 0, answers := [], direct := none, sched := [], draws := 0
    zeroLenCheck := .everyCall }

end Sys2Proof.Machine
end

