-- ==== Sys2Proof/Machine/Memory.lean ====
section
/-! DEFINITION. Operations over the host's memory (20_memory R40 to R43): one byte at a time, so no byte order. -/

namespace Sys2Proof.Machine

/-- The canonical form: the addresses strictly rise. An unlisted address holds no written byte, so no entry can equal
what an unlisted address holds (log 3). -/
def Memory.wf : Memory → Bool
  | [] => true
  | c :: rest => rest.all (fun d => decide (c.1 < d.1)) && Memory.wf rest

/-- The byte that was written at an address, if one was. -/
def Memory.written : Memory → Nat → Option Byte
  | [], _ => none
  | c :: rest, a => if c.1 = a then some c.2 else Memory.written rest a

/-- A host write of one byte: the entry of its address, put in its place. -/
def Memory.write : Memory → Nat → Byte → Memory
  | [], a, b => [(a, b)]
  | c :: rest, a, b =>
    if a < c.1 then (a, b) :: c :: rest
    else if a = c.1 then (a, b) :: rest
    else c :: Memory.write rest a b

/-- What an unlisted address reads as: a free value of the address, the same at every read (20_memory R42; log 3). -/
def Memory.unlisted (a : Nat) : Byte := Config.unwrittenByte a

/-- The byte `MEM[a]` (20_memory R42). -/
def Memory.read (m : Memory) (a : Nat) : Byte := (Memory.written m a).getD (Memory.unlisted a)

end Sys2Proof.Machine
end

