-- ==== Sys2Proof/Machine/Operands.lean ====
section
/-! DEFINITION. The operand forms: the address byte (30_encoding R65), the payload range (20_memory R43) and the
cursor's two modes (41_sequencer_steps R104). -/

namespace Sys2Proof.Machine

/-- The address byte of a 7-bit device address: the address in bits 7 to 1, the R/W bit 0 in bit 0 (30_encoding R65). -/
def addrByteOf (dev : BitVec 7) : Byte := dev ++ 0#1

/-- `ADDRBYTE`, the first byte of every frame (30_encoding R65). -/
def addrByte : Byte := addrByteOf Config.devAddr7

/-- The cursor after a payload byte is loaded: `+ 1` modulo the address space in sequence mode, unchanged in repeat mode
(41_sequencer_steps R100, R102(c)). -/
def nextCursor {a : Nat} (ptr : BitVec a) (rpt : Bool) : BitVec a := if rpt then ptr else ptr + 1#a

/-- How many addresses the payload range has (20_memory R43): `len` in sequence mode, one in repeat mode, none for
`len = 0`. -/
def payloadCount {l : Nat} (len : BitVec l) (rpt : Bool) : Nat := if rpt then min 1 len.toNat else len.toNat

/-- An address lies in the payload range of the transaction last submitted (20_memory R43). -/
def inPayloadRange (s : State) (a : Nat) : Bool :=
  decide (s.rangeBase ≤ a) && decide (a < s.rangeBase + s.rangeCount)

/-- An address is plain memory (20_memory R42). -/
def plainMemory (s : State) (a : Nat) : Bool := !s.notPlain.contains a

/-- `slaveAnswer(i)`: the answer fixed in advance for slot `i`, else a free value of `i`
(42_peripheral_primitives R121; log 9). -/
def slaveAnswer (s : State) (i : Nat) : Bool := s.answers[i]?.getD (Config.slaveAnswer i)

end Sys2Proof.Machine
end

