-- ==== Sys2Proof/Machine/Flags.lean ====
section
/-! DEFINITION. The conditions operations test and the flags they set (10_state R21 to R23). The block has no carry,
zero, negative or overflow flag (R23). -/

namespace Sys2Proof.Machine

/-- `TSTATE = Idle` (30_encoding R70). -/
def isIdle (s : State) : Bool := s.tstate == StateCode.idle

/-- The host is running: `SLEEPCOND = 0` (10_state R30). -/
def hostRunning (s : State) : Bool := s.sleepcond == 0#Config.wakeW

/-- The sequencer has a step: `IFG = 1`, `GIE = 1` and `CFG = 1` (60_exceptions R142). -/
def sequencerEnabled (s : State) : Bool := s.ifg && s.gie && s.cfg

/-- The peripheral has a step: `CFG = 1` and `CNT != 0` (42_peripheral_primitives R120). -/
def peripheralEnabled (s : State) : Bool := s.cfg && s.cnt != 0

/-- The received ACK bit, bit 0 of the shift register, set for NACK (10_state R22). -/
def nackBit (sr : Byte) : Bool := sr[0]

/-- The shift register after the ACK slot: the answer in bit 0 below seven unspecified bits
(42_peripheral_primitives R120). -/
def ackRegister (high : BitVec 7) (n : Bool) : Byte := high ++ BitVec.ofBool n

/-- `SLEEPCOND & ~WMASK` (41_sequencer_steps R102(d)). -/
def clearedConditions {n : Nat} (cond mask : BitVec n) : BitVec n := cond &&& ~~~mask

/-- `raiseInterruptFlag()`: `IFG <- 1` (42_peripheral_primitives R115). -/
def raiseFlag (s : State) : State := { s with ifg := true }

/-- `clearInterruptFlag()`: `IFG <- 0` (42_peripheral_primitives R116). -/
def clearFlag (s : State) : State := { s with ifg := false }

/-- `disableInterrupts()`: `GIE <- 0` (42_peripheral_primitives R118). -/
def disableIrq (s : State) : State := { s with gie := false }

/-- `enableInterrupts()`: `GIE <- 1` (42_peripheral_primitives R119). -/
def enableIrq (s : State) : State := { s with gie := true }

end Sys2Proof.Machine
end

