-- ==== Sys2Proof/Machine/Ops.lean ====
section
/-! DEFINITION. The operations the meanings share: the peripheral primitives (42_peripheral_primitives), taking the
interrupt (60_exceptions R145), `prepareTransfer`, its phase entries and `prepareStop` (41_sequencer_steps R97 to
R101), the host's sleep (43_command_layer R135) and `INJECT` (60_exceptions R147). -/

namespace Sys2Proof.Machine

/-- What an operation answers. -/
abbrev Result := Host.Outcome State Fault Refusal

/-- Run one action after another inside the same atomic step; a stop of the first is the stop of both. -/
def andThen (r : Result) (f : State → Result) : Result :=
  match r with
  | .next s => f s
  | .fault e => .fault e
  | .refused e => .refused e

/-- The stop a code that selects no operation is answered with (30_encoding R72). -/
def rejected : Reject → Result
  | .reservedHostCommand => .refused .reservedHostCommand
  | .badStateCode => .fault .badStateCode
  | .badPhaseCode => .fault .badPhaseCode
  | .reservedPrimitive => .refused .reservedPrimitive
  | .receiveNotSupported => .refused .receiveNotSupported
  | .badShiftCount => .refused .badShiftCount

/-! ## The peripheral primitives -/

/-- `loadShiftRegister(b)`: `SR <- b`, refused while a shift is in flight (42_peripheral_primitives R110). -/
def loadSR (b : Byte) (s : State) : Result :=
  if s.cnt = 0 then .next { s with sr := b } else .refused .loadDuringShift

/-- `SR <- draw(byte)`: a free value; the counter of free values advances (00_scope R8). -/
def drawSR (s : State) : State := { s with sr := Config.freeByte s.draws, draws := s.draws + 1 }

/-- `shiftBits(n)`: `CNT <- n` for `n` 1 or 8 (42_peripheral_primitives R112). -/
def commandShift (n : Nat) (s : State) : Result :=
  if legalShiftCount n then .next { s with cnt := n } else .refused .badShiftCount

/-- `setOutputEnable(en)`: `OE <- en` (42_peripheral_primitives R114). -/
def setOE (en : Bool) (s : State) : State := { s with oe := en }

/-- Append an event to the wire trace `W` (00_scope R8). -/
def appendWire (e : WireEvent) (s : State) : State := { s with w := s.w ++ [e] }

/-- `assertStartLatch()`: `GE <- 1`, `START` on the wire, `GE <- 0` (42_peripheral_primitives R113). -/
def pulseStartLatch (s : State) : State :=
  let asserted := { s with ge := true }
  let started := appendWire .start asserted
  { started with ge := false }

/-- `configurePeripheral(div, src)` (42_peripheral_primitives R117). -/
def configure (div : ClkDiv) (src : ClkSrc) (s : State) : State :=
  { drawSR { s with cnt := 0, oe := false, ge := false } with clkdiv := div, clksrc := src, cfg := true }

/-- The end of a shift: `CNT <- 0`, `IFG <- 1` (42_peripheral_primitives R120). -/
def endShift (s : State) : State := raiseFlag { s with cnt := 0 }

/-! ## The interrupt -/

/-- Taking the interrupt (60_exceptions R145, 41_sequencer_steps R90): the flag is cleared, nothing is saved, and
control goes to the dispatch entry of `TSTATE`, which the sequencer's decoder selects. The return is the end of the
step, with no action of its own (60_exceptions R146). -/
def takeInterrupt (s : State) : State := clearFlag s

/-- `TSTATE <- c`. -/
def enterState (c : BitVec 8) (s : State) : State := { s with tstate := c }

/-- The wake-up of `IRQ_STOP`: for `WMASK != 0`, clear the conditions it names and log it (41_sequencer_steps R96). -/
def wakeHost (s : State) : State :=
  if s.wmask = 0#Config.wakeW then s
  else { s with sleepcond := clearedConditions s.sleepcond s.wmask, k := s.k ++ [s.wmask] }

/-! ## Loading a byte and preparing the stop -/

/-- `prepareStop()` (41_sequencer_steps R101). -/
def stopPreparation (s : State) : Result :=
  andThen (loadSR 0x00#8 (setOE true s)) fun s₁ =>
  andThen (commandShift 1 s₁) fun s₂ =>
  .next (enterState StateCode.stop s₂)

/-- `XFER_ADDR`: load the address byte, `PHASE <- SendControl` (41_sequencer_steps R98). -/
def loadAddress (s : State) : Result :=
  andThen (loadSR addrByte s) fun s₁ => .next { s₁ with phase := PhaseCode.sendControl }

/-- `XFER_CTRL`: load the control byte, `PHASE <- SendPayload` (41_sequencer_steps R99). -/
def loadControl (s : State) : Result :=
  andThen (loadSR s.ctrl s) fun s₁ => .next { s₁ with phase := PhaseCode.sendPayload }

/-- `MemRead(PTR, 1)`, handed to what uses the byte; refused where `PTR` is not plain memory (20_memory R42). -/
def readPayload (s : State) (use : Byte → Result) : Result :=
  if plainMemory s s.ptr.toNat then use (Memory.read s.mem s.ptr.toNat) else .refused .payloadNotPlainMemory

/-- `XFER_PAYLOAD`: load the byte at the cursor, move the cursor in sequence mode, `LEN <- LEN - 1`
(41_sequencer_steps R100). -/
def loadPayload (s : State) : Result :=
  readPayload s fun b =>
  andThen (loadSR b s) fun s₁ => .next { s₁ with ptr := nextCursor s₁.ptr s₁.rpt, len := s₁.len - 1#Config.lenW }

/-- The phase dispatch of `prepareTransfer` (30_encoding R63, 41_sequencer_steps R97). -/
def loadByPhase (s : State) : Result :=
  if s.phase = PhaseCode.sendAddress then loadAddress s
  else if s.phase = PhaseCode.sendControl then loadControl s
  else if s.phase = PhaseCode.sendPayload then loadPayload s
  else .fault .badPhaseCode

/-- The byte's half of `prepareTransfer`: drive the line, load by phase, shift 8 bits out (41_sequencer_steps R97). -/
def byteTransfer (s : State) : Result :=
  andThen (loadByPhase (setOE true s)) fun s₁ =>
  andThen (commandShift 8 s₁) fun s₂ =>
  .next (enterState StateCode.prepareAckNack s₂)

/-- The test of `LEN = 0` in `prepareTransfer`: made on every call, or in the `SendPayload` arm only
(41_sequencer_steps R97 and its case (c)). -/
def lengthStops (z : ZeroLenCheck) (s : State) : Bool :=
  match z with
  | .everyCall => s.len == 0#Config.lenW
  | .payloadPhaseOnly => s.phase == PhaseCode.sendPayload && s.len == 0#Config.lenW

/-- `prepareTransfer()` under either setting of `ZERO_LEN_CHECK` (41_sequencer_steps R97 and its case (c)). -/
def transferUnder (z : ZeroLenCheck) (s : State) : Result :=
  if lengthStops z s then stopPreparation s else byteTransfer s

/-- `prepareTransfer()` under the setting the state holds (00_scope R6; log 12). -/
def nextTransfer (s : State) : Result := transferUnder s.zeroLenCheck s

/-! ## The host and the environment -/

/-- Record the answer of `ISIDLE` on its result port (30_encoding R70). -/
def recordIdle (s : State) : State := { s with idleOut := isIdle s }

/-- `SLEEP(mask)`: `SLEEPCOND <- SLEEPCOND | mask` (43_command_layer R135). -/
def sleepHost (mask : WakeMask) (s : State) : State := { s with sleepcond := s.sleepcond ||| mask }

/-- A host write of one byte, refused inside the payload range while a transaction runs (20_memory R43). -/
def hostWrite (a : Addr) (b : Byte) (s : State) : Result :=
  if !isIdle s && inPayloadRange s a.toNat then .refused .payloadMutatedInFlight
  else .next { s with mem := Memory.write s.mem a.toNat b }

/-- `INJECT`: `IFG <- 1`, admitted only in `Idle` with no shift in flight (60_exceptions R147). -/
def inject (s : State) : Result :=
  if isIdle s && s.cnt == 0 then .next (raiseFlag s) else .refused .injectedInterruptInFlight

/-- The operands `SUBMIT` refuses, and when (40_host_operations R82), in the order of its pseudocode. -/
def submitRefusal (ctrl : Byte) (ptr : Addr) (len : Len) (rpt : Bool) (s : State) : Option Refusal :=
  if !s.cfg then some .submitBeforeInit
  else if !legalControlByte ctrl then some .reservedControlByte
  else if payloadWraps ptr len rpt then some .payloadWraps
  else none

/-- What `SUBMIT` writes once it takes its step (40_host_operations R82), and the payload range it opens
(20_memory R43). -/
def recordTransaction (ctrl : Byte) (ptr : Addr) (len : Len) (rpt : Bool) (wmask : WakeMask) (s : State) : State :=
  raiseFlag
    { s with
      ctrl := ctrl, ptr := ptr, len := len, rpt := rpt, wmask := wmask
      tstate := StateCode.start, phase := PhaseCode.sendAddress
      rangeBase := ptr.toNat, rangeCount := payloadCount len rpt }

/-- A `SUBMIT` holds: it is not refused and `TSTATE != Idle` (40_host_operations R82). -/
def holds (i : Instr) (s : State) : Bool :=
  match i with
  | .submit ctrl ptr len rpt _ => (submitRefusal ctrl ptr len rpt s).isNone && !isIdle s
  | _ => false

end Sys2Proof.Machine
end

