-- ==== Sys2Proof/Machine/HostOps.lean ====
section
/-! DEFINITION. The host operations `ISIDLE`, `INIT` and `SUBMIT` (40_host_operations). -/

namespace Sys2Proof.Machine

/-- `ISIDLE()` (R83): the answer goes to the result port, no register of the block changes. -/
def execIsidle (s : State) : Result := .next (recordIdle s)

/-- `INIT(div, src)` (R81), its five actions in the source's order. -/
def execInit (div : ClkDiv) (src : ClkSrc) (s : State) : Result :=
  if s.cfg then .refused .initCalledTwice
  else .next (enableIrq (clearFlag (configure div src (disableIrq s))))

/-- `SUBMIT(ctrl, ptr, len, rpt, wmask)` (R82). While `TSTATE != Idle` it holds: no effect. -/
def execSubmit (ctrl : Byte) (ptr : Addr) (len : Len) (rpt : Bool) (wmask : WakeMask) (s : State) : Result :=
  match submitRefusal ctrl ptr len rpt s with
  | some r => .refused r
  | none => if isIdle s then .next (recordTransaction ctrl ptr len rpt wmask s) else .next s

end Sys2Proof.Machine
end

