-- ==== Sys2Proof/Machine/Phases.lean ====
section
/-! DEFINITION. The three phase entries (41_sequencer_steps R98 to R100) and the two shared routines (R97, R101) as
operations of their own. -/

namespace Sys2Proof.Machine

/-- `XFER_ADDR` (R98). -/
def execXferAddr (s : State) : Result := loadAddress s

/-- `XFER_CTRL` (R99). -/
def execXferCtrl (s : State) : Result := loadControl s

/-- `XFER_PAYLOAD` (R100). -/
def execXferPayload (s : State) : Result := loadPayload s

/-- `prepareTransfer()` (R97). -/
def execPrepareTransfer (s : State) : Result := nextTransfer s

/-- `prepareStop()` (R101). -/
def execPrepareStop (s : State) : Result := stopPreparation s

end Sys2Proof.Machine
end

