-- ==== Sys2Proof/Machine/Primitives.lean ====
section
/-! DEFINITION. The ten peripheral primitives as operations of their own (42_peripheral_primitives R110 to R119). -/

namespace Sys2Proof.Machine

/-- `loadShiftRegister(b)` (R110). -/
def execLoadShiftRegister (b : Byte) (s : State) : Result := loadSR b s

/-- `readShiftRegister()` (R111): the result goes to its port, no register of the block changes. -/
def execReadShiftRegister (s : State) : Result := .next { s with srOut := s.sr }

/-- `shiftBits(n)` (R112). -/
def execShiftBits (n : Nat) (s : State) : Result := commandShift n s

/-- `setOutputEnable(en)` (R114). -/
def execSetOutputEnable (en : Bool) (s : State) : Result := .next (setOE en s)

/-- `assertStartLatch()` (R113). -/
def execAssertStartLatch (s : State) : Result := .next (pulseStartLatch s)

/-- `raiseInterruptFlag()` (R115). -/
def execRaiseInterruptFlag (s : State) : Result := .next (raiseFlag s)

/-- `clearInterruptFlag()` (R116). -/
def execClearInterruptFlag (s : State) : Result := .next (clearFlag s)

/-- `configurePeripheral(div, src)` (R117). -/
def execConfigurePeripheral (div : ClkDiv) (src : ClkSrc) (s : State) : Result := .next (configure div src s)

/-- `disableInterrupts()` (R118). -/
def execDisableInterrupts (s : State) : Result := .next (disableIrq s)

/-- `enableInterrupts()` (R119). -/
def execEnableInterrupts (s : State) : Result := .next (enableIrq s)

end Sys2Proof.Machine
end

