-- ==== Sys2Proof/Machine/Sequencer.lean ====
section
/-! DEFINITION. The six dispatch entries of the sequencer (41_sequencer_steps R91 to R96), each the body of one
interrupt. The entry condition, `TSTATE` at an enabled interrupt, is the sequencer's turn (Machine/Agents.lean). -/

namespace Sys2Proof.Machine

/-- `IRQ_IDLE` (R91). -/
def execIrqIdle (s : State) : Result := .next (takeInterrupt s)

/-- `IRQ_START` (R92). -/
def execIrqStart (s : State) : Result := nextTransfer (pulseStartLatch (takeInterrupt s))

/-- `IRQ_PREPACK` (R93). -/
def execIrqPrepack (s : State) : Result :=
  andThen (commandShift 1 (setOE false (takeInterrupt s))) fun s₁ => .next (enterState StateCode.handleRxTx s₁)

/-- `IRQ_RXTX` (R94): only bit 0 of the shift register decides. -/
def execIrqRxtx (s : State) : Result :=
  if nackBit s.sr then stopPreparation (takeInterrupt s) else nextTransfer (takeInterrupt s)

/-- `IRQ_PREPSTOP` (R95). -/
def execIrqPrepstop (s : State) : Result := stopPreparation (takeInterrupt s)

/-- `IRQ_STOP` (R96). -/
def execIrqStop (s : State) : Result :=
  .next (wakeHost (enterState StateCode.idle (setOE false (drawSR (appendWire .stop (takeInterrupt s))))))

end Sys2Proof.Machine
end

