-- ==== Sys2Proof/Machine/Shift.lean ====
section
/-! DEFINITION. The peripheral agent's step `SHIFT` in its three admitted forms (42_peripheral_primitives R120). Which
form runs is decided by `CNT` and `OE` at the peripheral's turn (Machine/Agents.lean). -/

namespace Sys2Proof.Machine

/-- `SHIFT_TX8`: a byte out. -/
def execShiftTx8 (s : State) : Result := .next (endShift (drawSR (appendWire (.byte s.sr) s)))

/-- `SHIFT_RX1`: the ACK slot, one bit in. The free bits above it advance the counter of free values. -/
def execShiftRx1 (s : State) : Result :=
  let n := slaveAnswer s s.nackslot
  .next (endShift
    { appendWire (.ackbit n) s with
      nackslot := s.nackslot + 1, sr := ackRegister (Config.freeSevenBits s.draws) n, draws := s.draws + 1 })

/-- `SHIFT_TX1`: the stop-preparation bit out; nothing on the wire trace. -/
def execShiftTx1 (s : State) : Result := .next (endShift (drawSR s))

end Sys2Proof.Machine
end

