-- ==== Sys2Proof/Machine/Dispatch.lean ====
section
/-! DEFINITION. One arm per operation of 30_encoding R71, each a direct call of its meaning. -/

namespace Sys2Proof.Machine

def exec (i : Instr) (s : State) : Host.Outcome State Fault Refusal :=
  match i with
  | .isidle => Sys2Proof.Machine.execIsidle s
  | .init div src => Sys2Proof.Machine.execInit div src s
  | .submit ctrl ptr len rpt wmask => Sys2Proof.Machine.execSubmit ctrl ptr len rpt wmask s
  | .irqIdle => Sys2Proof.Machine.execIrqIdle s
  | .irqStart => Sys2Proof.Machine.execIrqStart s
  | .irqPrepack => Sys2Proof.Machine.execIrqPrepack s
  | .irqRxtx => Sys2Proof.Machine.execIrqRxtx s
  | .irqPrepstop => Sys2Proof.Machine.execIrqPrepstop s
  | .irqStop => Sys2Proof.Machine.execIrqStop s
  | .xferAddr => Sys2Proof.Machine.execXferAddr s
  | .xferCtrl => Sys2Proof.Machine.execXferCtrl s
  | .xferPayload => Sys2Proof.Machine.execXferPayload s
  | .loadShiftRegister b => Sys2Proof.Machine.execLoadShiftRegister b s
  | .readShiftRegister => Sys2Proof.Machine.execReadShiftRegister s
  | .shiftBits n => Sys2Proof.Machine.execShiftBits n s
  | .setOutputEnable en => Sys2Proof.Machine.execSetOutputEnable en s
  | .assertStartLatch => Sys2Proof.Machine.execAssertStartLatch s
  | .raiseInterruptFlag => Sys2Proof.Machine.execRaiseInterruptFlag s
  | .clearInterruptFlag => Sys2Proof.Machine.execClearInterruptFlag s
  | .configurePeripheral div src => Sys2Proof.Machine.execConfigurePeripheral div src s
  | .disableInterrupts => Sys2Proof.Machine.execDisableInterrupts s
  | .enableInterrupts => Sys2Proof.Machine.execEnableInterrupts s
  | .shiftTx8 => Sys2Proof.Machine.execShiftTx8 s
  | .shiftRx1 => Sys2Proof.Machine.execShiftRx1 s
  | .shiftTx1 => Sys2Proof.Machine.execShiftTx1 s
  | .prepareTransfer => Sys2Proof.Machine.execPrepareTransfer s
  | .prepareStop => Sys2Proof.Machine.execPrepareStop s

end Sys2Proof.Machine
end

