-- ==== Sys2Proof/Machine/Agents.lean ====
section
/-! DEFINITION. What each agent does when it is its turn (00_scope R5), whose turn it is (20_memory R50), and where the
next operation stands. An agent with no enabled step leaves the state alone: it holds (00_scope R8). -/

namespace Sys2Proof.Machine

/-! ## Whose turn it is -/

/-- The agent that takes the next step: the one fixed in advance, else a free value (20_memory R50; log 5). -/
def turn (s : State) : Agent :=
  match s.sched with
  | a :: _ => a
  | [] => Config.freeAgent s.draws

/-- That choice is used up. -/
def passTurn (s : State) : State :=
  match s.sched with
  | _ :: rest => { s with sched := rest }
  | [] => { s with draws := s.draws + 1 }

/-! ## The four agents -/

/-- A host command: decode it, and run it unless it is a `SUBMIT` that holds; then the host goes on with `rest`
(40_host_operations R80, R82). -/
def hostCommand (cmd : BitVec 2) (ports : Ports) (rest : List HostAct) (s : State) : Result :=
  match decode { code := .host cmd, ports := ports } with
  | .error e => rejected e
  | .ok i => if holds i s then .next s else andThen (exec i s) fun t => .next { t with program := rest }

/-- Step `A` of `WAITIDLE(mask)`: return if idle, else go to step `B`, which is the same host step when `WAIT_ATOMIC`
is true (43_command_layer R135). -/
def waitStep (mask : WakeMask) (rest : List HostAct) (s : State) : Result :=
  andThen (exec .isidle s) fun t =>
  if isIdle s then .next { t with program := rest }
  else if Config.waitAtomic then .next (sleepHost mask t)
  else .next { t with program := .waitSleep mask :: rest }

/-- One host step: the next action of its program, and what it does after it (40_host_operations R80). -/
def hostAction (act : HostAct) (rest : List HostAct) (s : State) : Result :=
  match act with
  | .command cmd ports => hostCommand cmd ports rest s
  | .memWrite a b => andThen (hostWrite a b s) fun t => .next { t with program := rest }
  | .sleep mask => .next { sleepHost mask s with program := rest }
  | .waitIdle mask => waitStep mask rest s
  | .waitSleep mask => .next { sleepHost mask s with program := .waitIdle mask :: rest }

/-- The host's turn: it has a step only while it is running (10_state R30). -/
def hostTurn (s : State) : Result :=
  if hostRunning s then
    match s.program with
    | [] => .next s
    | act :: rest => hostAction act rest s
  else .next s

/-- The sequencer's turn: with the interrupt enabled, the dispatch entry of `TSTATE` (41_sequencer_steps R90). -/
def sequencerTurn (s : State) : Result :=
  if sequencerEnabled s then
    match decode { code := .seq s.tstate, ports := .zero } with
    | .error e => rejected e
    | .ok i => exec i s
  else .next s

/-- The form of `SHIFT` that `CNT` and `OE` select (42_peripheral_primitives R120). A count that does not fit the
tuple's four bits is neither 1 nor 8. -/
def shiftForm (s : State) : Except Reject Instr :=
  if s.cnt < 16 then decode { code := .agent (agentTuple (BitVec.ofNat 4 s.cnt) s.oe), ports := .zero }
  else .error .badShiftCount

/-- The peripheral's turn: with a shift commanded, `SHIFT` (42_peripheral_primitives R120). -/
def peripheralTurn (s : State) : Result :=
  if peripheralEnabled s then
    match shiftForm s with
    | .error e => rejected e
    | .ok i => exec i s
  else .next s

/-- The environment's turn: its next `INJECT`, if it has one (60_exceptions R147). -/
def environmentTurn (s : State) : Result :=
  match s.injects with
  | 0 => .next s
  | n + 1 => andThen (inject s) fun t => .next { t with injects := n }

/-- One agent's turn. -/
def agentTurn (a : Agent) (s : State) : Result :=
  match a with
  | .host => hostTurn s
  | .sequencer => sequencerTurn s
  | .peripheral => peripheralTurn s
  | .environment => environmentTurn s

/-! ## An operation presented by itself -/

/-- Run one operation by itself: "if a model exposes the primitive" (30_encoding R72(e); log 10). It is taken off its
port and its body runs, whatever agent it belongs to. -/
def runDirect (x : OpWord) (s : State) : Result :=
  match decode x with
  | .error e => rejected e
  | .ok i => exec i { s with direct := none }

/-- One step of the machine: the operation presented by itself, if there is one; else one agent's turn. -/
def oneStep (s : State) : Result :=
  match s.direct with
  | some x => runDirect x s
  | none => agentTurn (turn s) (passTurn s)

/-! ## Where the next operation is placed -/

/-- The state whose next step runs the operation a word selects (log 13): a host command stands first in the program of a
running host; a dispatch entry is selected by `TSTATE` at an enabled interrupt; a form of `SHIFT` by `CNT` and `OE`;
an operation no agent's turn selects by itself goes to its own port. -/
def placeWord (x : OpWord) (s : State) : State :=
  match x.code with
  | .host cmd =>
    { s with direct := none, sched := .host :: s.sched, sleepcond := 0#_, program := .command cmd x.ports :: s.program }
  | .seq c => { s with direct := none, sched := .sequencer :: s.sched, ifg := true, gie := true, cfg := true, tstate := c }
  | .agent t =>
    { s with direct := none, sched := .peripheral :: s.sched, cfg := true, cnt := (t >>> 1).toNat, oe := t[0] }
  | .phase _ | .prim _ | .call _ => { s with direct := some x }

end Sys2Proof.Machine
end

