-- ==== Sys2Proof/Machine/CommandLayer.lean ====
section
/-! DEFINITION. The Command Layer's pseudo-operations (43_command_layer R130 to R134): each expands to host actions. The
composite operations of R136 have no sequence in any source and no expansion here (log 14). -/

namespace Sys2Proof.Machine

/-- `COMMAND` (30_encoding R66). -/
def controlCommand : Byte := 0x00#8
/-- `DATA` (30_encoding R66). -/
def controlData : Byte := 0x40#8

/-- `SUBMIT(ctrl, ptr, len, rpt, wmask)` as the host presents it: code 0b10 and its operand ports (30_encoding R61). -/
def submitAct (ctrl : Byte) (ptr : Addr) (len : Len) (rpt : Bool) (wmask : WakeMask) : HostAct :=
  .command 0b10#2 { Ports.zero with ctrl := ctrl, ptr := ptr, len := len, rpt := rpt, wmask := wmask }

/-- `sendCommand(byte)` (R131). -/
def sendCommand (b : Byte) : List HostAct :=
  [.memWrite Config.clTmp b, submitAct controlCommand Config.clTmp 1#_ false Config.clWakeMask,
   .waitIdle Config.clWakeMask]

/-- `sendCommand2(b0, b1)` (R132). DESIGN CHOICE (log 1): a `LEN_W` of 1 holds its length 2 modulo 2, as 0. -/
def sendCommand2 (b0 b1 : Byte) : List HostAct :=
  [.memWrite Config.clTmp b0, .memWrite (Config.clTmp + 1#_) b1,
   submitAct controlCommand Config.clTmp 2#_ false Config.clWakeMask, .waitIdle Config.clWakeMask]

/-- `sendData(buf, len)` (R133). -/
def sendData (buf : Addr) (len : Len) : List HostAct :=
  [submitAct controlData buf len false Config.clWakeMask, .waitIdle Config.clWakeMask]

/-- `sendDataRepeated(byte, count)` (R134). -/
def sendDataRepeated (b : Byte) (count : Len) : List HostAct :=
  [.memWrite Config.clTmp b, submitAct controlData Config.clTmp count true Config.clWakeMask,
   .waitIdle Config.clWakeMask]

end Sys2Proof.Machine
end

