-- ==== Sys2Proof/Machine/Step.lean ====
section
/-! DEFINITION. One step of the machine, and the state in which a given table word is the next operation. -/

namespace Sys2Proof.Machine

/-- One step (20_memory R50): one atomic step of one agent. -/
def step (s : State) : Host.Outcome State Fault Refusal := oneStep s

/-- `s` with the operation of a table word placed where the next step takes it from (log 13). -/
def State.withFetchWord (s : State) (nbits w : Nat) : State := placeWord (tableWord nbits w) s

end Sys2Proof.Machine
end

