-- ==== Sys2Proof/Safety.lean ====
section
/-! DEFINITION. What counts as a safe run, in the terms claims use: the invariants of 10_state R36, the shape of the wire
trace (30_encoding R68), the work left in a transaction (41_sequencer_steps R105), runs and fairness (70 R179), and the
end of a run (70 R180). -/

namespace Sys2Proof.Safety

open Sys2Proof.Machine

/-! ## Which agent has a step -/

/-- The host has a step: it is running and has an action left, which is not a `SUBMIT` that holds
(40_host_operations R80). -/
def hostEnabled (s : State) : Bool :=
  hostRunning s &&
  match s.program with
  | [] => false
  | .command cmd ports :: _ =>
    match decode { code := .host cmd, ports := ports } with
    | .ok i => !holds i s
    | .error _ => true
  | _ :: _ => true

/-- An agent has a step. -/
def enabled (a : Agent) (s : State) : Bool :=
  match a with
  | .host => hostEnabled s
  | .sequencer => sequencerEnabled s
  | .peripheral => peripheralEnabled s
  | .environment => s.injects != 0

/-- The next step is this agent's. -/
def moves (a : Agent) (s : State) : Prop := s.direct = none ∧ turn s = a

/-! ## What each operation writes -/

/-- The elements of State, by name. -/
inductive Element where
  | tstate | phase | ctrl | ptr | len | rpt | wmask | sr | cnt | oe | ge | ifg | gie | cfg | clkdiv | clksrc | sleepcond
  | mem | w | k | nackslot | idleOut | srOut | rangeBase | rangeCount | notPlain | program | injects | answers | direct
  | sched | draws | zeroLenCheck
deriving DecidableEq, Repr

/-- Two states agree on an element. -/
def Element.agree (e : Element) (s t : State) : Prop :=
  match e with
  | .tstate => t.tstate = s.tstate
  | .phase => t.phase = s.phase
  | .ctrl => t.ctrl = s.ctrl
  | .ptr => t.ptr = s.ptr
  | .len => t.len = s.len
  | .rpt => t.rpt = s.rpt
  | .wmask => t.wmask = s.wmask
  | .sr => t.sr = s.sr
  | .cnt => t.cnt = s.cnt
  | .oe => t.oe = s.oe
  | .ge => t.ge = s.ge
  | .ifg => t.ifg = s.ifg
  | .gie => t.gie = s.gie
  | .cfg => t.cfg = s.cfg
  | .clkdiv => t.clkdiv = s.clkdiv
  | .clksrc => t.clksrc = s.clksrc
  | .sleepcond => t.sleepcond = s.sleepcond
  | .mem => t.mem = s.mem
  | .w => t.w = s.w
  | .k => t.k = s.k
  | .nackslot => t.nackslot = s.nackslot
  | .idleOut => t.idleOut = s.idleOut
  | .srOut => t.srOut = s.srOut
  | .rangeBase => t.rangeBase = s.rangeBase
  | .rangeCount => t.rangeCount = s.rangeCount
  | .notPlain => t.notPlain = s.notPlain
  | .program => t.program = s.program
  | .injects => t.injects = s.injects
  | .answers => t.answers = s.answers
  | .direct => t.direct = s.direct
  | .sched => t.sched = s.sched
  | .draws => t.draws = s.draws
  | .zeroLenCheck => t.zeroLenCheck = s.zeroLenCheck

/-- What `prepareStop` writes (41_sequencer_steps R101, "State written"). -/
def stopWrites : List Element := [.oe, .sr, .cnt, .tstate]

/-- What `prepareTransfer` writes (41_sequencer_steps R97 to R100, "State written"). -/
def transferWrites : List Element := [.oe, .sr, .cnt, .tstate, .phase, .ptr, .len]

/-- The "State written" line of each operation's rule, with the model's own fields beside it: the result ports, the payload
range (20_memory R43) and the counter of free values. -/
def statesWritten : Instr → List Element
  | .isidle => [.idleOut]
  | .init _ _ => [.gie, .cnt, .oe, .ge, .sr, .clkdiv, .clksrc, .cfg, .ifg, .draws]
  | .submit _ _ _ _ _ =>
    [.ctrl, .ptr, .len, .rpt, .wmask, .tstate, .phase, .ifg, .rangeBase, .rangeCount]
  | .irqIdle => [.ifg]
  | .irqStart => .ifg :: .ge :: .w :: transferWrites
  | .irqPrepack => [.ifg, .oe, .cnt, .tstate]
  | .irqRxtx => .ifg :: transferWrites
  | .irqPrepstop => .ifg :: stopWrites
  | .irqStop => [.ifg, .w, .sr, .oe, .tstate, .sleepcond, .k, .draws]
  | .xferAddr => [.sr, .phase]
  | .xferCtrl => [.sr, .phase]
  | .xferPayload => [.sr, .len, .ptr]
  | .loadShiftRegister _ => [.sr]
  | .readShiftRegister => [.srOut]
  | .shiftBits _ => [.cnt]
  | .setOutputEnable _ => [.oe]
  | .assertStartLatch => [.ge, .w]
  | .raiseInterruptFlag => [.ifg]
  | .clearInterruptFlag => [.ifg]
  | .configurePeripheral _ _ => [.cnt, .oe, .ge, .sr, .clkdiv, .clksrc, .cfg, .draws]
  | .disableInterrupts => [.gie]
  | .enableInterrupts => [.gie]
  | .shiftTx8 => [.w, .sr, .cnt, .ifg, .draws]
  | .shiftRx1 => [.w, .sr, .nackslot, .cnt, .ifg, .draws]
  | .shiftTx1 => [.sr, .cnt, .ifg, .draws]
  | .prepareTransfer => transferWrites
  | .prepareStop => stopWrites

/-- The wire events an operation appends (10_state R31). -/
def eventsOf (i : Instr) (s : State) : List WireEvent :=
  match i with
  | .irqStart | .assertStartLatch => [.start]
  | .irqStop => [.stop]
  | .shiftTx8 => [.byte s.sr]
  | .shiftRx1 => [.ackbit (slaveAnswer s s.nackslot)]
  | _ => []

/-! ## The length test (41_sequencer_steps R97) -/

/-- The length sends `prepareTransfer` to the stop: `LEN = 0`, tested on every call, or under the other setting of
`ZERO_LEN_CHECK` in the phase `SendPayload` only (41_sequencer_steps R97 and its case (c)). -/
def zeroLengthStops (s : State) : Prop := s.len = 0#_ ∧ (s.zeroLenCheck = .everyCall ∨ s.phase = 0x04#8)

/-! ## The control invariant (10_state R36) -/

/-- The byte in flight was loaded, so `PHASE` is past `SendAddress` (10_state R20). -/
def phaseLoaded (s : State) : Prop := s.phase = PhaseCode.sendControl ∨ s.phase = PhaseCode.sendPayload

/-- A shift of `n` bits is in flight and no interrupt is pending. -/
def shifting (n : Nat) (drive : Bool) (s : State) : Prop := s.cnt = n ∧ s.oe = drive ∧ s.ifg = false

/-- The shift has ended and its interrupt is pending. -/
def pending (s : State) : Prop := s.cnt = 0 ∧ s.ifg = true

/-- What each Transaction State says of the other registers (10_state R36 (a) and (c) to (h)); `PrepareStop` is not
among the states. -/
def controlShape (s : State) : Prop :=
  (s.tstate = StateCode.idle ∧ (s.cfg = true → s.cnt = 0)) ∨
  (s.tstate = StateCode.start ∧ pending s ∧ s.phase = PhaseCode.sendAddress) ∨
  (s.tstate = StateCode.prepareAckNack ∧ phaseLoaded s ∧ (shifting 8 true s ∨ pending s)) ∨
  (s.tstate = StateCode.handleRxTx ∧ phaseLoaded s ∧ (shifting 1 false s ∨ pending s)) ∨
  (s.tstate = StateCode.stop ∧ (shifting 1 true s ∧ s.sr = 0x00#8 ∨ pending s))

/-- The control invariant: 10_state R36 (a) to (i), with the facts of `CFG` and `GIE` that carry it (60_exceptions R142,
R146), for a machine in which nothing presents an operation by itself. -/
structure ControlInv (s : State) : Prop where
  nothingDirect : s.direct = none
  latchOff : s.ge = false
  enabledOnceConfigured : s.cfg = true → s.gie = true
  idleUntilConfigured : s.cfg = false → s.tstate = StateCode.idle
  shape : controlShape s

/-- `IFG = 0` and `CNT = 0` in `Idle` after `INIT`, in a machine whose environment injects nothing (10_state R36 (c)). -/
def QuietIdle (s : State) : Prop :=
  s.injects = 0 ∧ (s.cfg = true → s.tstate = StateCode.idle → s.ifg = false ∧ s.cnt = 0)

/-! ## The shape of the wire trace (30_encoding R68, 10_state R36 (j)) -/

/-- Where a wire trace stands. -/
inductive WirePos where
  /-- Before a frame. -/
  | free
  /-- After `START`. -/
  | started
  /-- After the `n`-th byte of the frame, before its ACK bit. -/
  | byteSent (n : Nat)
  /-- After the ACK of the `n`-th byte. -/
  | acked (n : Nat)
  /-- After a NACK. -/
  | nacked
deriving DecidableEq, Repr

/-- The frame grammar (30_encoding R68): the first byte is `ADDRBYTE`, the second a control byte, every byte has an ACK
bit after it, and only `STOP` follows a NACK. -/
def wireNext : WirePos → WireEvent → Option WirePos
  | .free, .start => some .started
  | .started, .byte b => if b = addrByte then some (.byteSent 1) else none
  | .started, .stop => some .free
  | .byteSent n, .ackbit nack => some (if nack then .nacked else .acked n)
  | .acked n, .byte b => if n = 1 ∧ legalControlByte b = false then none else some (.byteSent (n + 1))
  | .acked _, .stop => some .free
  | .nacked, .stop => some .free
  | _, _ => none

/-- Where a trace stands after its events, if it follows the grammar. -/
def wireRun : WirePos → List WireEvent → Option WirePos
  | p, [] => some p
  | p, e :: rest =>
    match wireNext p e with
    | some q => wireRun q rest
    | none => none

/-- `n` bytes of the frame are out and `PHASE` names the next one (10_state R20): the control byte after one, a payload
byte after more. -/
def phaseCounts (s : State) (n : Nat) : Prop :=
  (s.phase = PhaseCode.sendControl ∧ n = 1) ∨ (s.phase = PhaseCode.sendPayload ∧ 2 ≤ n)

/-- The trace's place fits the control state. -/
def placeFits (s : State) (p : WirePos) : Prop :=
  if s.tstate = StateCode.idle ∨ s.tstate = StateCode.start then p = .free
  else if s.tstate = StateCode.prepareAckNack then
    if s.ifg then ∃ n, p = .byteSent n ∧ phaseCounts s n
    else
      (s.phase = PhaseCode.sendControl ∧ p = .started ∧ s.sr = addrByte) ∨
      (s.phase = PhaseCode.sendPayload ∧ ∃ n, 1 ≤ n ∧ p = .acked n ∧ (n = 1 → s.sr = s.ctrl))
  else if s.tstate = StateCode.handleRxTx then
    if s.ifg then if nackBit s.sr then p = .nacked else ∃ n, p = .acked n ∧ phaseCounts s n
    else ∃ n, p = .byteSent n ∧ phaseCounts s n
  else p = .started ∨ p = .nacked ∨ ∃ n, p = .acked n

/-- The wire invariant: the trace follows the frame grammar up to a place that fits the control state, and the control
byte of a running transaction is a legal one. -/
structure WireInv (s : State) : Prop where
  control : s.tstate ≠ StateCode.idle → legalControlByte s.ctrl = true
  trace : ∃ p, wireRun .free s.w = some p ∧ placeFits s p

/-! ## The frame of one transaction (30_encoding R68) -/

/-- The addresses a payload of `n` bytes is read from, in order (41_sequencer_steps R106). -/
def payloadAddresses (ptr : Addr) (rpt : Bool) : Nat → List Nat
  | 0 => []
  | n + 1 => ptr.toNat :: payloadAddresses (nextCursor ptr rpt) rpt n

/-- The bytes of a transaction's frame if every slot answers ACK (30_encoding R68): for `LEN = 0` none under `every_call`,
and no payload byte under `payload_phase_only` (41_sequencer_steps R97 cases (b) and (c)). -/
def frameBytes (s : State) : List Byte :=
  if s.len.toNat = 0 ∧ s.zeroLenCheck = .everyCall then []
  else addrByte :: s.ctrl :: (payloadAddresses s.ptr s.rpt s.len.toNat).map (Memory.read s.mem)

/-- The bytes with their ACK bits, from slot `i` on; a NACK ends them (30_encoding R68). -/
def frameEvents (s : State) : List Byte → Nat → List WireEvent
  | [], _ => []
  | b :: rest, i =>
    .byte b :: .ackbit (slaveAnswer s i) :: (if slaveAnswer s i then [] else frameEvents s rest (i + 1))

/-- How many bytes, each with its ACK slot, go out from slot `i` on (41_sequencer_steps R105). -/
def frameSlots (s : State) : List Byte → Nat → Nat
  | [], _ => 0
  | _ :: rest, i => if slaveAnswer s i then 1 else frameSlots s rest (i + 1) + 1

/-- Who has the next engine step after this agent's. -/
def counterpart : Agent → Agent
  | .sequencer => .peripheral
  | _ => .sequencer

/-- How many turns of a schedule sequencer and peripheral take, turn about, when `due` is the next to have a step; the
turns of everyone else stand between (20_memory R50, 60_exceptions R144). -/
def turnsTaken : Agent → List Agent → Nat
  | _, [] => 0
  | due, a :: rest => if a = due then turnsTaken (counterpart due) rest + 1 else turnsTaken due rest

/-- A host action that no rule refuses while the transaction in `s` runs: `ISIDLE`, a legal `SUBMIT`, a write outside the
payload (20_memory R43), sleeping and waiting. -/
def admissible (s : State) : HostAct → Prop
  | .command cmd p =>
    cmd = 0b00#2 ∨
    (cmd = 0b10#2 ∧ (p.ctrl = 0x00#8 ∨ p.ctrl = 0x40#8) ∧
      (p.rpt = true ∨ p.len.toNat = 0 ∨ p.ptr.toNat + p.len.toNat - 1 < 2 ^ Config.addrW))
  | .memWrite a _ => inPayloadRange s a.toNat = false ∧ a.toNat ∉ payloadAddresses s.ptr s.rpt s.len.toNat
  | .sleep _ | .waitIdle _ | .waitSleep _ => True

/-! ## The work left in a transaction (41_sequencer_steps R105, 70 R179) -/

/-- An upper bound on the bytes still to load. -/
def bytesLeft (s : State) : Nat :=
  if lengthStops s.zeroLenCheck s then 0
  else s.len.toNat +
    (if s.phase = PhaseCode.sendAddress then 2 else if s.phase = PhaseCode.sendControl then 1 else 0)

/-- An upper bound on the sequencer and `SHIFT` steps still to come before `Idle`: four for each byte, two for the stop,
and what is left of the present group. -/
def workLeft (s : State) : Nat :=
  if s.tstate = StateCode.start then 4 * bytesLeft s + 3
  else if s.tstate = StateCode.prepareAckNack then 4 * bytesLeft s + (if s.cnt = 0 then 5 else 6)
  else if s.tstate = StateCode.handleRxTx then 4 * bytesLeft s + (if s.cnt = 0 then 3 else 4)
  else if s.tstate = StateCode.stop then (if s.cnt = 0 then 1 else 2)
  else 0

/-! ## What the Command Layer leaves to the engine (43_command_layer R130) -/

/-- One transaction with these operands has just been submitted, with the Command Layer's mask, and the host waits for
it before it goes on with `rest`. -/
def awaiting (ctrl : Byte) (ptr : Addr) (len : Len) (rpt : Bool) (rest : List HostAct) (s : State) : Prop :=
  s.tstate = StateCode.start ∧ s.phase = PhaseCode.sendAddress ∧ s.ifg = true ∧ s.ctrl = ctrl ∧ s.ptr = ptr ∧
  s.len = len ∧ s.rpt = rpt ∧ s.wmask = Config.clWakeMask ∧ s.program = .waitIdle Config.clWakeMask :: rest

/-! ## Runs, fairness, the end of a run -/

/-- `n` steps, up to the first stop. -/
def steps : Nat → State → Result
  | 0, s => .next s
  | n + 1, s => andThen (step s) (steps n)

/-- An endless run: every step answers the next state. -/
def Run (tr : Nat → State) : Prop := ∀ n, step (tr n) = .next (tr (n + 1))

/-- Weak fairness of one agent (70 R179): a step that stays enabled is eventually taken. -/
def WeaklyFair (a : Agent) (tr : Nat → State) : Prop :=
  ∀ n, (∀ m, n ≤ m → enabled a (tr m) = true) → ∃ m, n ≤ m ∧ moves a (tr m)

/-- `TSTATE = Idle`, `CNT = 0` and `IFG = 0` (70 R180): no transaction runs, no shift is in flight, nothing is pending. -/
def quiescent (s : State) : Bool := isIdle s && s.cnt == 0 && !s.ifg

/-- The run is over (70 R180, its first sentence): the program is finished or the host is asleep, and the engine is
quiescent, so that nothing will wake it. -/
def runOver (s : State) : Bool := (s.program.isEmpty || !hostRunning s) && quiescent s

/-- The run is over because the host sleeps: "a deadlock, not an end" (70 R180, 93 U11). -/
def deadlocked (s : State) : Bool := !hostRunning s && quiescent s

/-- The run has ended: over, and no deadlock. A host asleep after the last action of its program is deadlocked, not
finished (DEDUCED from the two sentences of 70 R180; log 23). -/
def finished (s : State) : Bool := s.program.isEmpty && hostRunning s && quiescent s

/-- The host sleeps and nothing of the block will wake it (70 R180): the deadlock, with an interrupt that the environment
injected allowed for. -/
def AsleepForGood (s : State) : Prop :=
  s.direct = none ∧ s.sleepcond ≠ 0#_ ∧ s.tstate = StateCode.idle ∧ s.cnt = 0

end Sys2Proof.Safety
end

