-- ==== Sys2Proof/Certificates/Slice0/Obligations.lean ====
section
/-! DEFINITION. The statements for the provers, from the numbered rules of spec/. Where a clause rests on the model's own
choice the docstring names the log entry. -/

open Sys2Proof Sys2Proof.Machine Sys2Proof.Safety

/-! ## Encoding (30_encoding) -/

/-- Decoding gives back every encoded operation with every operand, and a word that decodes to an operation carries that
operation's code: decode and encode agree in both directions. -/
def Obligations.OperationsAndCodesAgreeBothWays : Prop :=
  (∀ i : Instr, decode (encode i) = .ok i) ∧
  (∀ (x : OpWord) (i : Instr), decode x = .ok i → (encode i).code = x.code)

/-- A few words of each format, written out from 30_encoding R61 to R64, decode to the operation they stand for. -/
def Obligations.WordsOfTheTablesDecode : Prop :=
  (∀ p : Ports, decode { code := .host 0b10#2, ports := p } = .ok (.submit p.ctrl p.ptr p.len p.rpt p.wmask)) ∧
  (∀ p : Ports, decode { code := .seq 0x06#8, ports := p } = .ok .irqRxtx) ∧
  (∀ p : Ports, decode { code := .phase 0x04#8, ports := p } = .ok .xferPayload) ∧
  (∀ p : Ports, decode { code := .prim 0x2#4, ports := p } = .ok (.shiftBits p.n)) ∧
  (∀ p : Ports, decode { code := .agent 0x11#5, ports := p } = .ok .shiftTx8) ∧
  (∀ p : Ports, decode { code := .call .prepareStop, ports := p } = .ok .prepareStop)

/-- Reserved codes select nothing and are rejected under the names of R72: command 0b11, selectors 0xA to 0xF, and every
state or phase value outside the tables. -/
def Obligations.ReservedCodesAreRejectedByName : Prop :=
  (∀ p, decode { code := .host 0b11#2, ports := p } = .error .reservedHostCommand) ∧
  (∀ (sel : BitVec 4) p, 0xA ≤ sel.toNat → decode { code := .prim sel, ports := p } = .error .reservedPrimitive) ∧
  (∀ (c : BitVec 8) p,
    c ≠ 0x00#8 → c ≠ 0x02#8 → c ≠ 0x04#8 → c ≠ 0x06#8 → c ≠ 0x08#8 → c ≠ 0x0A#8 →
      decode { code := .seq c, ports := p } = .error .badStateCode) ∧
  (∀ (c : BitVec 8) p, c ≠ 0x00#8 → c ≠ 0x02#8 → c ≠ 0x04#8 →
    decode { code := .phase c, ports := p } = .error .badPhaseCode)

/-- No code fits two rows of the opcode table: operations whose rows fit one code, outside format `CALL`, have the same
code. -/
def Obligations.NoCodeFitsTwoRows : Prop :=
  ∀ (i j : Instr) (c : Code), c.format ≠ .CALL → i.row.fits c = true → j.row.fits c = true →
    (encode i).code = (encode j).code

/-! ## A step runs the decoded operation -/

/-- With nothing presented by itself a step is one agent's turn, and around that turn's action it uses up one entry of the
schedule, or, where the schedule is empty, one free value that names the agent. That the order of steps, which the spec
leaves open, is taken from a schedule in State is the model's own choice (log 5). -/
def Obligations.TurnUsesUpOneScheduleEntry : Prop :=
  (∀ s : State, s.direct = none → step s = agentTurn (turn s) (passTurn s)) ∧
  (∀ s : State, turn s = s.sched.head?.getD (Config.freeAgent s.draws)) ∧
  (∀ s : State, passTurn s =
    { s with sched := s.sched.tail, draws := if s.sched = [] then s.draws + 1 else s.draws })

/-- On the host's turn the command at the head of the program runs, and then the program moves on. -/
def Obligations.StepRunsTheHostCommand : Prop :=
  ∀ (s : State) (cmd : BitVec 2) (ports : Ports) (rest : List HostAct) (i : Instr),
    moves .host s → s.sleepcond = 0#_ → s.program = .command cmd ports :: rest →
    decode { code := .host cmd, ports := ports } = .ok i → holds i (passTurn s) = false →
      step s = andThen (exec i (passTurn s)) (fun t => .next { t with program := rest })

/-- On the sequencer's turn, with the interrupt enabled, the entry that `TSTATE` selects runs, and nothing else. -/
def Obligations.StepRunsTheDispatchEntry : Prop :=
  ∀ (s : State) (i : Instr),
    moves .sequencer s → s.ifg = true → s.gie = true → s.cfg = true →
    decode { code := .seq s.tstate, ports := .zero } = .ok i →
      step s = exec i (passTurn s)

/-- On the peripheral's turn, with a shift commanded, the form of `SHIFT` that `CNT` and `OE` select runs; an 8-bit receive
and any other count are refused. -/
def Obligations.StepRunsTheShift : Prop :=
  ∀ s : State, moves .peripheral s → s.cfg = true → s.cnt ≠ 0 →
    step s =
      if s.cnt = 8 ∧ s.oe = true then exec .shiftTx8 (passTurn s)
      else if s.cnt = 1 ∧ s.oe = false then exec .shiftRx1 (passTurn s)
      else if s.cnt = 1 ∧ s.oe = true then exec .shiftTx1 (passTurn s)
      else if s.cnt = 8 ∧ s.oe = false then .refused .receiveNotSupported
      else .refused .badShiftCount

/-- An operation presented by itself is taken off its port and run (the model's own port, log 10). -/
def Obligations.StepRunsTheDirectOperation : Prop :=
  ∀ (s : State) (x : OpWord) (i : Instr),
    s.direct = some x → decode x = .ok i → step s = exec i { s with direct := none }

/-- The sequencer has no step unless `IFG = 1`, `GIE = 1` and `CFG = 1`. -/
def Obligations.MaskedSequencerTakesNoStep : Prop :=
  ∀ s : State, moves .sequencer s → (s.ifg = false ∨ s.gie = false ∨ s.cfg = false) →
    step s = .next (passTurn s)

/-- The peripheral has no step unless `CFG = 1` and `CNT != 0`. -/
def Obligations.UncommandedPeripheralTakesNoStep : Prop :=
  ∀ s : State, moves .peripheral s → (s.cfg = false ∨ s.cnt = 0) → step s = .next (passTurn s)

/-- The host takes no step while it sleeps. -/
def Obligations.SleepingHostTakesNoStep : Prop :=
  ∀ s : State, moves .host s → s.sleepcond ≠ 0#_ → step s = .next (passTurn s)

/-- Codes that select nothing stop the machine under the names of R72: a bad `TSTATE` at an enabled interrupt; a bad
`PHASE` in `prepareTransfer` and in the entries that run it, unless the length stops it first; the reserved host command;
and, presented by itself on the model's own port (log 10), a reserved selector and a bad phase code. -/
def Obligations.BadCodesStopTheMachine : Prop :=
  (∀ s : State, moves .sequencer s → s.ifg = true → s.gie = true → s.cfg = true →
    s.tstate ∉ [0x00#8, 0x02#8, 0x04#8, 0x06#8, 0x08#8, 0x0A#8] → step s = .fault .badStateCode) ∧
  (∀ s : State, ¬ zeroLengthStops s → s.phase ∉ [0x00#8, 0x02#8, 0x04#8] →
    exec .prepareTransfer s = .fault .badPhaseCode ∧ exec .irqStart s = .fault .badPhaseCode ∧
    (s.sr[0] = false → exec .irqRxtx s = .fault .badPhaseCode)) ∧
  (∀ (s : State) (p : Ports) (rest : List HostAct), moves .host s → s.sleepcond = 0#_ →
    s.program = .command 0b11#2 p :: rest → step s = .refused .reservedHostCommand) ∧
  (∀ (s : State) (sel : BitVec 4) (p : Ports), s.direct = some { code := .prim sel, ports := p } →
    0xA ≤ sel.toNat → step s = .refused .reservedPrimitive) ∧
  (∀ (s : State) (c : BitVec 8) (p : Ports), s.direct = some { code := .phase c, ports := p } →
    c ∉ [0x00#8, 0x02#8, 0x04#8] → step s = .fault .badPhaseCode)

/-! ## Host operations (40_host_operations) -/

/-- `ISIDLE` answers whether `TSTATE = Idle` on its result port and writes nothing else. -/
def Obligations.IsidleAnswersWhetherIdle : Prop :=
  ∀ s : State, exec .isidle s = .next { s with idleOut := decide (s.tstate = 0x00#8) }

/-- `INIT` on an engine not yet configured: all it writes, with a free value in `SR` (log 11). On a configured one it is
refused. -/
def Obligations.InitConfiguresThePeripheralOnce : Prop :=
  ∀ (s : State) (div : ClkDiv) (src : ClkSrc),
    (s.cfg = false →
      exec (.init div src) s = .next
        { s with
          gie := true, cnt := 0, oe := false, ge := false, clkdiv := div, clksrc := src, cfg := true, ifg := false
          sr := Config.freeByte s.draws, draws := s.draws + 1 }) ∧
    (s.cfg = true → exec (.init div src) s = .refused .initCalledTwice)

/-- `SUBMIT` in `Idle` records its five operands unchanged, goes to `Start` and `SendAddress`, raises the flag and writes
nothing else but the model's own record of the payload range. -/
def Obligations.SubmitRecordsTheTransaction : Prop :=
  ∀ (s : State) (ctrl : Byte) (ptr : Addr) (len : Len) (rpt : Bool) (wmask : WakeMask),
    s.cfg = true → (ctrl = 0x00#8 ∨ ctrl = 0x40#8) →
    (rpt = true ∨ len.toNat = 0 ∨ ptr.toNat + len.toNat - 1 < 2 ^ Config.addrW) → s.tstate = 0x00#8 →
      ∃ t, exec (.submit ctrl ptr len rpt wmask) s = .next t ∧
        t = { s with
          ctrl := ctrl, ptr := ptr, len := len, rpt := rpt, wmask := wmask
          tstate := 0x02#8, phase := 0x00#8, ifg := true
          rangeBase := t.rangeBase, rangeCount := t.rangeCount }

/-- The payload range of an accepted `SUBMIT` (20_memory R43), as the model records it (log 7): `len` addresses from `ptr`
on in sequence mode, `ptr` alone in repeat mode, none for `len = 0`; all of them addresses of the space. -/
def Obligations.SubmitOpensThePayloadRange : Prop :=
  ∀ (s t : State) (ctrl : Byte) (ptr : Addr) (len : Len) (rpt : Bool) (wmask : WakeMask),
    s.tstate = 0x00#8 → exec (.submit ctrl ptr len rpt wmask) s = .next t →
      ∀ a : Nat,
        (inPayloadRange t a = true ↔
          if len.toNat = 0 then False
          else if rpt then a = ptr.toNat
          else ptr.toNat ≤ a ∧ a ≤ ptr.toNat + len.toNat - 1) ∧
        (inPayloadRange t a = true → a < 2 ^ Config.addrW)

/-- `SUBMIT` is refused before `INIT`, then for a reserved control byte, then for a wrapping range, and for nothing
else. -/
def Obligations.SubmitIsRefusedExactlyWhen : Prop :=
  ∀ (s : State) (ctrl : Byte) (ptr : Addr) (len : Len) (rpt : Bool) (wmask : WakeMask) (r : Refusal),
    exec (.submit ctrl ptr len rpt wmask) s = .refused r ↔
      (s.cfg = false ∧ r = .submitBeforeInit) ∨
      (s.cfg = true ∧ ctrl ≠ 0x00#8 ∧ ctrl ≠ 0x40#8 ∧ r = .reservedControlByte) ∨
      (s.cfg = true ∧ (ctrl = 0x00#8 ∨ ctrl = 0x40#8) ∧ rpt = false ∧ 1 ≤ len.toNat ∧
        2 ^ Config.addrW ≤ ptr.toNat + len.toNat - 1 ∧ r = .payloadWraps)

/-- A `SUBMIT` that is not refused and finds the engine busy changes nothing and stays the host's next action. R82 says
that it holds, which is to have no step; that the model lets the turn pass with the `SUBMIT` kept in the program, and that
its meaning by itself answers the unchanged state, are the model's own choices (log 18). -/
def Obligations.BusySubmitHolds : Prop :=
  ∀ (s : State) (p : Ports) (rest : List HostAct),
    moves .host s → s.sleepcond = 0#_ → s.program = .command 0b10#2 p :: rest →
    s.cfg = true → (p.ctrl = 0x00#8 ∨ p.ctrl = 0x40#8) →
    (p.rpt = true ∨ p.len.toNat = 0 ∨ p.ptr.toNat + p.len.toNat - 1 < 2 ^ Config.addrW) → s.tstate ≠ 0x00#8 →
      step s = .next (passTurn s) ∧
      exec (.submit p.ctrl p.ptr p.len p.rpt p.wmask) s = .next s

/-! ## Dispatch entries (41_sequencer_steps) -/

/-- `IRQ_IDLE` clears the flag and does nothing else. -/
def Obligations.IrqIdleOnlyClearsTheFlag : Prop :=
  ∀ s : State, exec .irqIdle s = .next { s with ifg := false }

/-- `IRQ_START` is: clear the flag, `START` on the wire, `prepareTransfer`; from what `SUBMIT` leaves it loads the address
byte, or prepares the stop for `LEN = 0` under `every_call`; under the other setting of the switch `ZERO_LEN_CHECK`
(90_conflicts C2, log 12) it loads the address byte for `LEN = 0` too. -/
def Obligations.IrqStartSendsStartAndTheAddress : Prop :=
  (∀ s : State, exec .irqStart s =
    exec .prepareTransfer { s with ifg := false, ge := false, w := s.w ++ [.start] }) ∧
  (∀ s : State, s.cnt = 0 → (s.len ≠ 0#_ ∨ s.zeroLenCheck = .payloadPhaseOnly) → s.phase = 0x00#8 →
    exec .irqStart s = .next
      { s with
        ifg := false, ge := false, w := s.w ++ [.start], oe := true
        sr := Config.devAddr7 ++ 0#1, phase := 0x02#8, cnt := 8, tstate := 0x04#8 }) ∧
  (∀ s : State, s.cnt = 0 → s.len = 0#_ → s.zeroLenCheck = .everyCall →
    exec .irqStart s = .next
      { s with
        ifg := false, ge := false, w := s.w ++ [.start], oe := true, sr := 0x00#8, cnt := 1, tstate := 0x0A#8 })

/-- `IRQ_PREPACK` releases the line and commands one bit. -/
def Obligations.IrqPrepackCommandsTheAckSlot : Prop :=
  ∀ s : State, exec .irqPrepack s = .next { s with ifg := false, oe := false, cnt := 1, tstate := 0x06#8 }

/-- `IRQ_RXTX` on NACK (bit 0 of `SR` set) prepares the stop, whatever bits 7 to 1 hold, and keeps `LEN`, `PTR`,
`PHASE`. -/
def Obligations.IrqRxtxOnNackPreparesTheStop : Prop :=
  ∀ s : State, s.sr[0] = true → s.cnt = 0 →
    exec .irqRxtx s = .next { s with ifg := false, oe := true, sr := 0x00#8, cnt := 1, tstate := 0x0A#8 }

/-- `IRQ_RXTX` on ACK is `prepareTransfer` with the flag cleared: the next byte by `PHASE`, or the stop where the length
says so (for `LEN = 0` by the setting of `ZERO_LEN_CHECK`: 90_conflicts C2, log 12); a payload byte at what is not plain
memory is refused. -/
def Obligations.IrqRxtxOnAckLoadsTheNextByte : Prop :=
  (∀ s : State, s.sr[0] = false →
    exec .irqRxtx s = exec .prepareTransfer { s with ifg := false }) ∧
  (∀ s : State, s.sr[0] = false → s.cnt = 0 → zeroLengthStops s →
    exec .irqRxtx s = .next { s with ifg := false, oe := true, sr := 0x00#8, cnt := 1, tstate := 0x0A#8 }) ∧
  (∀ s : State, s.sr[0] = false → s.cnt = 0 → ¬ zeroLengthStops s → s.phase = 0x00#8 →
    exec .irqRxtx s = .next
      { s with
        ifg := false, oe := true, sr := Config.devAddr7 ++ 0#1, phase := 0x02#8, cnt := 8, tstate := 0x04#8 }) ∧
  (∀ s : State, s.sr[0] = false → s.cnt = 0 → ¬ zeroLengthStops s → s.phase = 0x02#8 →
    exec .irqRxtx s = .next
      { s with ifg := false, oe := true, sr := s.ctrl, phase := 0x04#8, cnt := 8, tstate := 0x04#8 }) ∧
  (∀ s : State, s.sr[0] = false → s.cnt = 0 → s.len ≠ 0#_ → s.phase = 0x04#8 → s.ptr.toNat ∉ s.notPlain →
    exec .irqRxtx s = .next
      { s with
        ifg := false, oe := true, sr := Memory.read s.mem s.ptr.toNat
        ptr := if s.rpt then s.ptr else s.ptr + 1#_, len := s.len - 1#_, cnt := 8, tstate := 0x04#8 }) ∧
  (∀ s : State, s.sr[0] = false → s.len ≠ 0#_ → s.phase = 0x04#8 → s.ptr.toNat ∈ s.notPlain →
    exec .irqRxtx s = .refused .payloadNotPlainMemory)

/-- `IRQ_PREPSTOP` clears the flag and prepares the stop. -/
def Obligations.IrqPrepstopPreparesTheStop : Prop :=
  ∀ s : State, s.cnt = 0 →
    exec .irqPrepstop s = .next { s with ifg := false, oe := true, sr := 0x00#8, cnt := 1, tstate := 0x0A#8 }

/-- `IRQ_STOP`: `STOP` on the wire, line released, `Idle`; the conditions of a non-zero `WMASK` cleared and the mask
logged; a free value in `SR`. -/
def Obligations.IrqStopReturnsToIdleAndWakes : Prop :=
  ∀ s : State, exec .irqStop s = .next
    { s with
      ifg := false, w := s.w ++ [.stop], sr := Config.freeByte s.draws, draws := s.draws + 1, oe := false
      tstate := 0x00#8
      sleepcond := if s.wmask = 0#_ then s.sleepcond else s.sleepcond &&& ~~~s.wmask
      k := if s.wmask = 0#_ then s.k else s.k ++ [s.wmask] }

/-! ## `prepareTransfer`, the phase entries, `prepareStop` (41_sequencer_steps) -/

/-- `prepareTransfer` with no shift in flight: the stop where the length says so, which under `every_call` is before the
phase is looked at and under the other setting in `SendPayload` only (90_conflicts C2, log 12); otherwise the byte `PHASE`
names, 8 bits commanded, `PrepareAckNack`. It and `IRQ_START` refuse a payload byte at what is not plain memory. -/
def Obligations.PrepareTransferLoadsByPhase : Prop :=
  (∀ s : State, s.len ≠ 0#_ → s.phase = 0x04#8 → s.ptr.toNat ∈ s.notPlain →
    exec .prepareTransfer s = .refused .payloadNotPlainMemory ∧ exec .irqStart s = .refused .payloadNotPlainMemory) ∧
  ∀ s : State, s.cnt = 0 →
    (zeroLengthStops s →
      exec .prepareTransfer s = .next { s with oe := true, sr := 0x00#8, cnt := 1, tstate := 0x0A#8 }) ∧
    (¬ zeroLengthStops s → s.phase = 0x00#8 →
      exec .prepareTransfer s = .next
        { s with
          oe := true, sr := Config.devAddr7 ++ 0#1, phase := 0x02#8, cnt := 8, tstate := 0x04#8 }) ∧
    (¬ zeroLengthStops s → s.phase = 0x02#8 →
      exec .prepareTransfer s = .next
        { s with oe := true, sr := s.ctrl, phase := 0x04#8, cnt := 8, tstate := 0x04#8 }) ∧
    (s.len ≠ 0#_ → s.phase = 0x04#8 → s.ptr.toNat ∉ s.notPlain →
      exec .prepareTransfer s = .next
        { s with
          oe := true, sr := Memory.read s.mem s.ptr.toNat, ptr := if s.rpt then s.ptr else s.ptr + 1#_
          len := s.len - 1#_, cnt := 8, tstate := 0x04#8 })

/-- The two settings of the switch `ZERO_LEN_CHECK`: for `LEN != 0` they cannot be told apart; for `LEN = 0` the first call
of a transaction prepares the stop under `every_call` and loads the address byte under `payload_phase_only`. The setting
is the state's (log 12), and no step changes it. -/
def Obligations.ZeroLengthSettingsAgreeOnPayloads : Prop :=
  (∀ s : State, s.len ≠ 0#_ → transferUnder .everyCall s = transferUnder .payloadPhaseOnly s) ∧
  (∀ s : State, s.cnt = 0 → s.len = 0#_ → s.phase = 0x00#8 →
    transferUnder .everyCall s = .next { s with oe := true, sr := 0x00#8, cnt := 1, tstate := 0x0A#8 } ∧
    transferUnder .payloadPhaseOnly s = .next
      { s with oe := true, sr := Config.devAddr7 ++ 0#1, phase := 0x02#8, cnt := 8, tstate := 0x04#8 }) ∧
  (∀ s : State, exec .prepareTransfer s = transferUnder s.zeroLenCheck s) ∧
  (∀ s t : State, step s = .next t → t.zeroLenCheck = s.zeroLenCheck)

/-- `XFER_ADDR` loads the device address above a 0 bit and advances the phase. -/
def Obligations.XferAddrLoadsTheAddressByte : Prop :=
  ∀ s : State, s.cnt = 0 →
    exec .xferAddr s = .next { s with sr := Config.devAddr7 ++ 0#1, phase := 0x02#8 } ∧
    (Config.devAddr7 ++ 0#1 : Byte) = (Config.devAddr7.setWidth 8) <<< 1

/-- `XFER_CTRL` loads all 8 bits of `CTRL` and advances the phase. -/
def Obligations.XferCtrlLoadsTheControlByte : Prop :=
  ∀ s : State, s.cnt = 0 → exec .xferCtrl s = .next { s with sr := s.ctrl, phase := 0x04#8 }

/-- `XFER_PAYLOAD` reads the byte at the cursor before it moves, moves the cursor only in sequence mode, and decrements
`LEN` in both; where the cursor is not plain memory it is refused. -/
def Obligations.XferPayloadLoadsTheByteAtTheCursor : Prop :=
  (∀ s : State, s.cnt = 0 → s.ptr.toNat ∉ s.notPlain →
    exec .xferPayload s = .next
      { s with
        sr := Memory.read s.mem s.ptr.toNat, ptr := if s.rpt then s.ptr else s.ptr + 1#_, len := s.len - 1#_ }) ∧
  (∀ s : State, s.ptr.toNat ∈ s.notPlain → exec .xferPayload s = .refused .payloadNotPlainMemory)

/-- `prepareStop` drives the line low for one bit and goes to `Stop`. -/
def Obligations.PrepareStopCommandsOneLowBit : Prop :=
  ∀ s : State, s.cnt = 0 →
    exec .prepareStop s = .next { s with oe := true, sr := 0x00#8, cnt := 1, tstate := 0x0A#8 }

/-! ## Peripheral primitives and `SHIFT` (42_peripheral_primitives) -/

/-- `loadShiftRegister` writes `SR`, and is refused while a shift is in flight; so is every operation that loads the
register through it, which the model refuses as a whole (log 16): `XFER_PAYLOAD` where the cursor is at plain memory,
`prepareTransfer` and the entries that run it where it comes to a load, and `IRQ_RXTX` on NACK. -/
def Obligations.LoadingIsRefusedDuringAShift : Prop :=
  (∀ (s : State) (b : Byte), s.cnt = 0 → exec (.loadShiftRegister b) s = .next { s with sr := b }) ∧
  (∀ (s : State) (b : Byte), s.cnt ≠ 0 → exec (.loadShiftRegister b) s = .refused .loadDuringShift) ∧
  (∀ s : State, s.cnt ≠ 0 → ∀ i ∈ [Instr.xferAddr, .xferCtrl, .prepareStop, .irqPrepstop],
    exec i s = .refused .loadDuringShift) ∧
  (∀ s : State, s.cnt ≠ 0 → s.ptr.toNat ∉ s.notPlain → exec .xferPayload s = .refused .loadDuringShift) ∧
  (∀ s : State, s.cnt ≠ 0 →
    (zeroLengthStops s ∨ s.phase = 0x00#8 ∨ s.phase = 0x02#8 ∨ (s.phase = 0x04#8 ∧ s.ptr.toNat ∉ s.notPlain)) →
    ∀ i ∈ [Instr.prepareTransfer, .irqStart, .irqRxtx], exec i s = .refused .loadDuringShift) ∧
  (∀ s : State, s.cnt ≠ 0 → s.sr[0] = true → exec .irqRxtx s = .refused .loadDuringShift)

/-- Seven primitives, each with the effect its rule names and no other: six write the engine, and `readShiftRegister`,
which writes no register of the block, answers `SR` on the model's own result port `srOut` (log 6). -/
def Obligations.RegisterPrimitivesWriteTheirRegister : Prop :=
  (∀ s : State, exec .readShiftRegister s = .next { s with srOut := s.sr }) ∧
  (∀ (s : State) (en : Bool), exec (.setOutputEnable en) s = .next { s with oe := en }) ∧
  (∀ s : State, exec .assertStartLatch s = .next { s with w := s.w ++ [.start], ge := false }) ∧
  (∀ s : State, exec .raiseInterruptFlag s = .next { s with ifg := true }) ∧
  (∀ s : State, exec .clearInterruptFlag s = .next { s with ifg := false }) ∧
  (∀ s : State, exec .disableInterrupts s = .next { s with gie := false }) ∧
  (∀ s : State, exec .enableInterrupts s = .next { s with gie := true })

/-- `shiftBits(n)` writes `CNT` for `n` 1 or 8 and is refused for every other count. -/
def Obligations.ShiftBitsTakesOneOrEight : Prop :=
  ∀ (s : State) (n : Nat),
    exec (.shiftBits n) s = if n = 1 ∨ n = 8 then .next { s with cnt := n } else .refused .badShiftCount

/-- `configurePeripheral` resets the shift, the output and the latch, keeps its arguments and marks the engine configured;
a free value in `SR`. -/
def Obligations.ConfigurePeripheralResetsIt : Prop :=
  ∀ (s : State) (div : ClkDiv) (src : ClkSrc),
    exec (.configurePeripheral div src) s = .next
      { s with
        cnt := 0, oe := false, ge := false, sr := Config.freeByte s.draws, draws := s.draws + 1
        clkdiv := div, clksrc := src, cfg := true }

/-- The three forms of `SHIFT`: the byte in `SR` on the wire; the slave's answer on the wire and in bit 0 of `SR`, the slot
counted; nothing on the wire. Each ends with `CNT = 0`, `IFG = 1` and free bits elsewhere in `SR`. -/
def Obligations.ShiftMovesTheCommandedBits : Prop :=
  ∀ s : State,
    exec .shiftTx8 s = .next
      { s with
        w := s.w ++ [.byte s.sr], sr := Config.freeByte s.draws, draws := s.draws + 1, cnt := 0, ifg := true } ∧
    (∃ t, exec .shiftRx1 s = .next t ∧ t.sr[0] = slaveAnswer s s.nackslot ∧
      t = { s with
        w := s.w ++ [.ackbit (slaveAnswer s s.nackslot)], nackslot := s.nackslot + 1, sr := t.sr
        draws := s.draws + 1, cnt := 0, ifg := true }) ∧
    exec .shiftTx1 s = .next
      { s with sr := Config.freeByte s.draws, draws := s.draws + 1, cnt := 0, ifg := true }

/-! ## Frames over all operations -/

/-- An operation that answers a next state leaves every element alone that its rule's "State written" line does not
name. -/
def Obligations.OperationsWriteOnlyWhatTheirRulesName : Prop :=
  ∀ (i : Instr) (s t : State), exec i s = .next t → ∀ e : Element, e ∉ statesWritten i → e.agree s t

/-- No operation of the block writes memory: every byte reads as before. -/
def Obligations.NoOperationWritesMemory : Prop :=
  ∀ (i : Instr) (s t : State), exec i s = .next t → ∀ a : Nat, Memory.read t.mem a = Memory.read s.mem a

/-- `PTR` and `LEN` change only in `SUBMIT` and where a payload byte is loaded, and there by one step of the cursor and one
decrement. -/
def Obligations.CursorAndLengthMoveTogether : Prop :=
  ∀ (i : Instr) (s t : State), exec i s = .next t → (∀ c p l r m, i ≠ .submit c p l r m) →
    (t.ptr = s.ptr ∧ t.len = s.len) ∨
    ((i = .xferPayload ∨ (i ∈ [Instr.irqStart, .irqRxtx, .prepareTransfer] ∧ s.phase = 0x04#8 ∧ s.len ≠ 0#_)) ∧
      t.ptr = (if s.rpt then s.ptr else s.ptr + 1#_) ∧ t.len = s.len - 1#_)

/-- The logs only grow, and by what the rules name: the events of each operation on `W`, the mask of `IRQ_STOP` on `K` when
it is not 0, one slot for `SHIFT_RX1`. -/
def Obligations.LogsGrowByWhatTheRulesName : Prop :=
  ∀ (i : Instr) (s t : State), exec i s = .next t →
    t.w = s.w ++ eventsOf i s ∧
    t.k = s.k ++ (if i = .irqStop ∧ s.wmask ≠ 0#_ then [s.wmask] else []) ∧
    t.nackslot = s.nackslot + (if i = .shiftRx1 then 1 else 0)

/-! ## What a step can do to the control state -/

/-- `TSTATE` moves only along the table of R103, for a machine in which nothing presents an operation by itself. The two
conditions on the length are those of R97 under the state's setting of `ZERO_LEN_CHECK` (log 12): under `every_call` they
are `LEN = 0` and `LEN != 0`, as R103 writes them. -/
def Obligations.TransactionStateFollowsTheTable : Prop :=
  ∀ s t : State, s.direct = none → step s = .next t →
    t.tstate = s.tstate ∨
    (s.tstate = 0x00#8 ∧ t.tstate = 0x02#8) ∨
    (s.tstate = 0x02#8 ∧ ¬ zeroLengthStops s ∧ t.tstate = 0x04#8) ∨
    (s.tstate = 0x02#8 ∧ zeroLengthStops s ∧ t.tstate = 0x0A#8) ∨
    (s.tstate = 0x04#8 ∧ t.tstate = 0x06#8) ∨
    (s.tstate = 0x06#8 ∧ s.sr[0] = false ∧ ¬ zeroLengthStops s ∧ t.tstate = 0x04#8) ∨
    (s.tstate = 0x06#8 ∧ (s.sr[0] = true ∨ zeroLengthStops s) ∧ t.tstate = 0x0A#8) ∨
    (s.tstate = 0x08#8 ∧ t.tstate = 0x0A#8) ∨
    (s.tstate = 0x0A#8 ∧ t.tstate = 0x00#8)

/-- `PHASE` only advances, and returns to `SendAddress` only when a new transaction starts. -/
def Obligations.PhaseOnlyAdvancesWithinATransaction : Prop :=
  ∀ s t : State, s.direct = none → step s = .next t →
    t.phase = s.phase ∨
    (t.phase = 0x00#8 ∧ s.tstate = 0x00#8 ∧ t.tstate = 0x02#8) ∨
    (s.phase = 0x00#8 ∧ t.phase = 0x02#8) ∨
    (s.phase = 0x02#8 ∧ t.phase = 0x04#8)

/-- While a transaction runs, the host's steps leave every register of the engine and the peripheral alone. -/
def Obligations.HostLeavesABusyEngineAlone : Prop :=
  ∀ s t : State, moves .host s → s.cfg = true → s.tstate ≠ 0x00#8 → step s = .next t →
    ∀ e ∈ [Element.tstate, .phase, .ctrl, .ptr, .len, .rpt, .wmask, .sr, .cnt, .oe, .ge, .ifg, .gie, .cfg, .clkdiv,
      .clksrc, .w, .k, .nackslot], e.agree s t

/-! ## Host memory, sleep, injection -/

/-- A host write: refused inside the payload range while a transaction runs; otherwise it writes that one byte and leaves
every other alone. -/
def Obligations.HostWriteRespectsThePayload : Prop :=
  ∀ (s : State) (a : Addr) (b : Byte) (rest : List HostAct),
    moves .host s → s.sleepcond = 0#_ → s.program = .memWrite a b :: rest →
    (s.tstate ≠ 0x00#8 → s.rangeBase ≤ a.toNat → a.toNat < s.rangeBase + s.rangeCount →
      step s = .refused .payloadMutatedInFlight) ∧
    ((s.tstate = 0x00#8 ∨ a.toNat < s.rangeBase ∨ s.rangeBase + s.rangeCount ≤ a.toNat) →
      ∃ m, step s = .next { passTurn s with mem := m, program := rest } ∧
        Memory.read m a.toNat = b ∧ ∀ x, x ≠ a.toNat → Memory.read m x = Memory.read s.mem x)

/-- `WAITIDLE(mask)` and `SLEEP(mask)`, step by step: `A` returns in `Idle`; otherwise it goes on to `B`, in the same host
step exactly when `WAIT_ATOMIC`; `B` sets the mask's bits in `SLEEPCOND` and goes back to `A`. -/
def Obligations.WaitIdleChecksThenSleeps : Prop :=
  ∀ (s : State) (mask : WakeMask) (rest : List HostAct), moves .host s → s.sleepcond = 0#_ →
    (s.program = .waitIdle mask :: rest → s.tstate = 0x00#8 →
      step s = .next { passTurn s with idleOut := true, program := rest }) ∧
    (s.program = .waitIdle mask :: rest → s.tstate ≠ 0x00#8 →
      step s = .next
        (if Config.waitAtomic then { passTurn s with idleOut := false, sleepcond := mask }
         else { passTurn s with idleOut := false, program := .waitSleep mask :: rest })) ∧
    (s.program = .waitSleep mask :: rest →
      step s = .next { passTurn s with sleepcond := mask, program := .waitIdle mask :: rest }) ∧
    (s.program = .sleep mask :: rest → step s = .next { passTurn s with sleepcond := mask, program := rest })

/-- `INJECT` sets the flag in `Idle` with no shift in flight and is refused everywhere else. -/
def Obligations.InjectionOnlyInIdle : Prop :=
  ∀ (s : State) (n : Nat), moves .environment s → s.injects = n + 1 →
    step s =
      if s.tstate = 0x00#8 ∧ s.cnt = 0 then .next { passTurn s with ifg := true, injects := n }
      else .refused .injectedInterruptInFlight

/-- A host asleep with the engine idle stays asleep: no step wakes it or runs its program. -/
def Obligations.HostAsleepInIdleIsNeverWoken : Prop :=
  ∀ s t : State, AsleepForGood s → step s = .next t →
    AsleepForGood t ∧ t.sleepcond = s.sleepcond ∧ t.program = s.program ∧ t.w = s.w ∧ t.k = s.k

/-- Each Command Layer pseudo-operation, in an idle engine, puts its bytes at `CL_TMP`, submits exactly one transaction
with the Command Layer's mask and then waits (43_command_layer R130 to R134); every other byte of memory stays. Two points
of the `sendCommand2` clause are the model's own (log 1): at a `LEN_W` of 1 its length `2#_` is 0, where R132 gives 2
(DESIGN CHOICE), and its second byte's address is one above `CL_TMP` because `CL_TMP` is not the last address (DEDUCED).
The program and the schedule are held as logs 4 and 5 say. -/
def Obligations.CommandLayerSubmitsOneTransaction : Prop :=
  ∀ (s : State) (rest : List HostAct) (later : List Agent),
    s.direct = none → s.sleepcond = 0#_ → s.cfg = true → s.tstate = 0x00#8 →
    (∀ b, s.program = sendCommand b ++ rest → s.sched = [.host, .host] ++ later →
      ∃ t, steps 2 s = .next t ∧ awaiting 0x00#8 Config.clTmp 1#_ false rest t ∧
        ∀ a, Memory.read t.mem a = if a = Config.clTmp.toNat then b else Memory.read s.mem a) ∧
    (∀ b c, s.program = sendCommand2 b c ++ rest → s.sched = [.host, .host, .host] ++ later →
      ∃ t, steps 3 s = .next t ∧ awaiting 0x00#8 Config.clTmp 2#_ false rest t ∧
        ∀ a, Memory.read t.mem a =
          if a = Config.clTmp.toNat then b
          else if a = Config.clTmp.toNat + 1 then c
          else Memory.read s.mem a) ∧
    (∀ (buf : Addr) (n : Len), n.toNat = 0 ∨ buf.toNat + n.toNat - 1 < 2 ^ Config.addrW →
      s.program = sendData buf n ++ rest → s.sched = [.host] ++ later →
      ∃ t, steps 1 s = .next t ∧ awaiting 0x40#8 buf n false rest t ∧ t.mem = s.mem) ∧
    (∀ b (n : Len), s.program = sendDataRepeated b n ++ rest → s.sched = [.host, .host] ++ later →
      ∃ t, steps 2 s = .next t ∧ awaiting 0x40#8 Config.clTmp n true rest t ∧
        ∀ a, Memory.read t.mem a = if a = Config.clTmp.toNat then b else Memory.read s.mem a)

/-- The clock parameters influence nothing: changing them changes no outcome of a step but their own values. -/
def Obligations.ClockParametersInfluenceNothing : Prop :=
  ∀ (s : State) (d : ClkDiv) (c : ClkSrc),
    match step s, step { s with clkdiv := d, clksrc := c } with
    | .next t, .next u => { u with clkdiv := t.clkdiv, clksrc := t.clksrc } = t
    | .fault e, .fault f => e = f
    | .refused e, .refused f => e = f
    | _, _ => False

/-! ## Reset and invariants -/

/-- What reset leaves, as far as the spec says: `Idle`, not configured, the host running, the logs empty, no slot counted;
and the model's own invariants (log 22) hold there. What they need of reset beyond R35 is the model's choice: `GE = 0`
(log 2), memory with nothing listed (log 3), no injection to come (log 4), an empty direct port (log 10). -/
def Obligations.ResetIsIdleAndMeetsTheInvariants : Prop :=
  State.reset.tstate = 0x00#8 ∧ State.reset.cfg = false ∧ State.reset.sleepcond = 0#_ ∧ State.reset.w = [] ∧
  State.reset.k = [] ∧ State.reset.nackslot = 0 ∧
  ControlInv State.reset ∧ QuietIdle State.reset ∧ WireInv State.reset ∧ Memory.wf State.reset.mem = true

/-- Every step keeps the control invariant of R36. -/
def Obligations.StepsKeepTheControlInvariant : Prop :=
  ∀ s t : State, ControlInv s → step s = .next t → ControlInv t

/-- With no injection, `Idle` means no interrupt pending and no shift in flight, and every step keeps that. -/
def Obligations.StepsKeepIdleQuiet : Prop :=
  ∀ s t : State, ControlInv s → QuietIdle s → step s = .next t → QuietIdle t

/-- Every step keeps the wire invariant: the trace is complete frames and a prefix of one more, each with the address byte
first, a legal control byte second, an ACK bit after every byte, and nothing but `STOP` after a NACK. -/
def Obligations.StepsKeepTheWireWellFormed : Prop :=
  ∀ s t : State, ControlInv s → WireInv s → step s = .next t → WireInv t

/-- Every step keeps the canonical form of host memory (the model's own form, log 3). -/
def Obligations.StepsKeepMemoryCanonical : Prop :=
  ∀ s t : State, Memory.wf s.mem = true → step s = .next t → Memory.wf t.mem = true

/-- Under the control invariant the sequencer and the peripheral never stop the machine, but for a cursor that points at
what is not plain memory. -/
def Obligations.EngineStopsOnlyOnBadPayloadMemory : Prop :=
  ∀ s : State, ControlInv s → (turn s = .sequencer ∨ turn s = .peripheral) →
    (∃ t, step s = .next t) ∨
    (step s = .refused .payloadNotPlainMemory ∧ s.ptr.toNat ∈ s.notPlain ∧ s.phase = 0x04#8 ∧ s.len ≠ 0#_)

/-! ## Progress (41_sequencer_steps R105, 70 R179) -/

/-- While a transaction runs exactly one of sequencer and peripheral has a step; that agent's step takes at least one from
the work left, every other step leaves it; and the work left after a `SUBMIT` is the `2L + 6` sequencer steps and
`2L + 5` `SHIFT` steps of R105, or the 2 and 1 of `L = 0` under `every_call` (90_conflicts C2, log 12; under the other
setting `L = 0` has the 6 and 5 of the formula). The measure `workLeft` is the model's own definition (log 22). -/
def Obligations.EachEngineStepSpendsWork : Prop :=
  (∀ s : State, ControlInv s → s.tstate ≠ 0x00#8 → sequencerEnabled s = !peripheralEnabled s) ∧
  (∀ s t : State, ControlInv s → s.tstate ≠ 0x00#8 → step s = .next t →
    (if enabled (turn s) s = true ∧ (turn s = .sequencer ∨ turn s = .peripheral) then workLeft t + 1 ≤ workLeft s
     else workLeft t = workLeft s)) ∧
  (∀ s : State, s.tstate = 0x02#8 → s.phase = 0x00#8 →
    workLeft s = if s.len.toNat = 0 ∧ s.zeroLenCheck = .everyCall then 2 + 1 else (2 * s.len.toNat + 6) + (2 * s.len.toNat + 5))

/-- On every endless run that is weakly fair to the sequencer and the peripheral, the engine is `Idle` again and again:
every transaction ends, whatever the slave answers. -/
def Obligations.FairRunsReturnToIdle : Prop :=
  ∀ tr : Nat → State, Run tr → ControlInv (tr 0) →
    WeaklyFair .sequencer tr → WeaklyFair .peripheral tr →
    ∀ n, ∃ m, n ≤ m ∧ (tr m).tstate = 0x00#8

/-- The end of a run (R180), with no injection to come and nothing presented by itself: a run that is over, its program
finished or its host asleep, stays over, no agent has a step, and each step only uses up a turn; on a configured engine the
run is over exactly when no agent has a step. A run that is over has ended or is deadlocked, never both, and stays the one
it is; that a host asleep after a finished program is deadlocked and not at an end is read from R180 (log 23). -/
def Obligations.FinishedRunsStayFinished : Prop :=
  (∀ s : State, s.direct = none → s.injects = 0 → runOver s = true →
    (∀ a : Agent, enabled a s = false) ∧ step s = .next (passTurn s) ∧
    finished (passTurn s) = finished s ∧ deadlocked (passTurn s) = deadlocked s) ∧
  (∀ s : State, ControlInv s → QuietIdle s → s.cfg = true →
    (runOver s = true ↔ ∀ a : Agent, enabled a s = false)) ∧
  (∀ s : State, runOver s = (finished s != deadlocked s)) ∧
  (∀ s : State, finished s = true ↔
    s.program = [] ∧ s.sleepcond = 0#_ ∧ s.tstate = 0x00#8 ∧ s.cnt = 0 ∧ s.ifg = false) ∧
  (∀ s : State, deadlocked s = true ↔ s.sleepcond ≠ 0#_ ∧ s.tstate = 0x00#8 ∧ s.cnt = 0 ∧ s.ifg = false)

/-- A submitted transaction puts exactly its frame on the wire, cut after the first NACK, and ends in `Idle` with the
wake-up done, on every schedule that gives sequencer and peripheral, turn about, `2j + 2` and `2j + 1` turns for `j` bytes
sent, whatever other turns stand between (R50, R144): turns of an agent that is not due, turns of a host whose actions no
rule refuses while the transaction runs (it may sleep, wait, ask, write memory outside the payload, hold in a `SUBMIT`),
turns of an environment that injects nothing. For `LEN = 0` the frame follows the state's setting of `ZERO_LEN_CHECK`
(90_conflicts C2, log 12): `START`, `STOP` under `every_call`, address and control byte under `payload_phase_only`. The
schedule is the model's own (log 5). -/
def Obligations.TransactionSendsExactlyItsFrame : Prop :=
  ∀ (s : State) (l rest : List Agent) (j : Nat),
    s.direct = none → s.tstate = 0x02#8 → s.phase = 0x00#8 → s.cnt = 0 →
    s.ifg = true → s.gie = true → s.cfg = true →
    (∀ a ∈ payloadAddresses s.ptr s.rpt s.len.toNat, a ∉ s.notPlain) →
    (.host ∈ l → ∀ act ∈ s.program, admissible s act) → (.environment ∈ l → s.injects = 0) →
    j = frameSlots s (frameBytes s) s.nackslot →
    turnsTaken .sequencer l = (2 * j + 1) + (2 * j + 1) → s.sched = l ++ .sequencer :: rest →
      ∃ t, steps (l.length + 1) s = .next t ∧
        t.w = s.w ++ [.start] ++ frameEvents s (frameBytes s) s.nackslot ++ [.stop] ∧
        t.nackslot = s.nackslot + j ∧ t.tstate = 0x00#8 ∧ t.cnt = 0 ∧ t.ifg = false ∧ t.oe = false ∧
        t.sleepcond &&& s.wmask = 0#_ ∧
        t.k = (if s.wmask = 0#_ then s.k else s.k ++ [s.wmask]) ∧ t.sched = rest ∧
        (∀ a ∈ payloadAddresses s.ptr s.rpt s.len.toNat, Memory.read t.mem a = Memory.read s.mem a) ∧
        (.host ∉ l → t.sleepcond = s.sleepcond &&& ~~~s.wmask ∧ t.mem = s.mem ∧ t.program = s.program)
end

