-- ==== Sys2Proof/Laws/Memory.lean ====
section
/-! SUPPORT. The laws of host memory: a read after a write, and the canonical form kept. -/

namespace Sys2Proof.Machine

@[simp] theorem Memory.wf_nil : Memory.wf [] = true := rfl

theorem Memory.wf_cons (c : Host.Cell) (rest : Memory) :
    Memory.wf (c :: rest) = true ↔ (∀ d ∈ rest, c.1 < d.1) ∧ Memory.wf rest = true := by
  simp [Memory.wf]

/-- The addresses of a memory after a write: the written one, and those there were. -/
theorem Memory.mem_write {m : Memory} {a : Nat} {b : Byte} {d : Host.Cell} (h : d ∈ Memory.write m a b) :
    d = (a, b) ∨ d ∈ m := by
  induction m with
  | nil => simpa [Memory.write] using h
  | cons c rest ih =>
    unfold Memory.write at h
    split at h
    · simpa using h
    · split at h
      · rcases List.mem_cons.1 h with h | h
        · exact .inl h
        · exact .inr (List.mem_cons_of_mem _ h)
      · rcases List.mem_cons.1 h with h | h
        · exact .inr (h ▸ List.mem_cons_self)
        · exact (ih h).imp_right (List.mem_cons_of_mem _)

/-- A write keeps the canonical form. -/
theorem Memory.wf_write {m : Memory} (h : Memory.wf m = true) (a : Nat) (b : Byte) :
    Memory.wf (Memory.write m a b) = true := by
  induction m with
  | nil => simp [Memory.write, Memory.wf]
  | cons c rest ih =>
    have hc := (Memory.wf_cons c rest).1 h
    unfold Memory.write
    split
    · rename_i lt
      refine (Memory.wf_cons _ _).2 ⟨fun d hd => ?_, h⟩
      rcases List.mem_cons.1 hd with rfl | hd
      · exact lt
      · exact lt.trans (hc.1 d hd)
    · split
      · rename_i eq
        exact (Memory.wf_cons _ _).2 ⟨fun d hd => eq ▸ hc.1 d hd, hc.2⟩
      · rename_i nlt ne
        refine (Memory.wf_cons _ _).2 ⟨fun d hd => ?_, ih hc.2⟩
        rcases Memory.mem_write hd with rfl | hd
        · exact Nat.lt_of_le_of_ne (Nat.le_of_not_lt nlt) (Ne.symm ne)
        · exact hc.1 d hd

/-- What was written at an address, after a write. -/
theorem Memory.written_write (m : Memory) (a : Nat) (b : Byte) (x : Nat) :
    Memory.written (Memory.write m a b) x = if x = a then some b else Memory.written m x := by
  induction m with
  | nil => simp [Memory.write, Memory.written, eq_comm]
  | cons c rest ih =>
    unfold Memory.write
    split
    · simp [Memory.written, eq_comm]
    · split
      · rename_i eq
        by_cases hx : x = a
        · simp [Memory.written, hx]
        · simp [Memory.written, hx, Ne.symm hx, ← eq]
      · rename_i ne
        by_cases hx : x = a
        · subst hx
          simpa [Memory.written, Ne.symm ne] using ih
        · simp [Memory.written, hx, ih]

/-- A read after a write to the same address gives the byte written. -/
theorem Memory.read_write_same (m : Memory) (a : Nat) (b : Byte) : Memory.read (Memory.write m a b) a = b := by
  simp [Memory.read, Memory.written_write]

/-- A write leaves every other address alone. -/
theorem Memory.read_write_other {m : Memory} {a x : Nat} (b : Byte) (h : x ≠ a) :
    Memory.read (Memory.write m a b) x = Memory.read m x := by
  simp [Memory.read, Memory.written_write, h]

end Sys2Proof.Machine
end

