-- ==== Sys2Proof/Laws/State.lean ====
section
/-! SUPPORT. What each named update does to each field of State: one lemma per field per update. -/

namespace Sys2Proof.Machine

variable (s : State)

/-! ## `raiseFlag` -/

@[simp] theorem raiseFlag_tstate : (raiseFlag s).tstate = s.tstate := rfl
@[simp] theorem raiseFlag_phase : (raiseFlag s).phase = s.phase := rfl
@[simp] theorem raiseFlag_ctrl : (raiseFlag s).ctrl = s.ctrl := rfl
@[simp] theorem raiseFlag_ptr : (raiseFlag s).ptr = s.ptr := rfl
@[simp] theorem raiseFlag_len : (raiseFlag s).len = s.len := rfl
@[simp] theorem raiseFlag_rpt : (raiseFlag s).rpt = s.rpt := rfl
@[simp] theorem raiseFlag_wmask : (raiseFlag s).wmask = s.wmask := rfl
@[simp] theorem raiseFlag_sr : (raiseFlag s).sr = s.sr := rfl
@[simp] theorem raiseFlag_cnt : (raiseFlag s).cnt = s.cnt := rfl
@[simp] theorem raiseFlag_oe : (raiseFlag s).oe = s.oe := rfl
@[simp] theorem raiseFlag_ge : (raiseFlag s).ge = s.ge := rfl
@[simp] theorem raiseFlag_ifg : (raiseFlag s).ifg = true := rfl
@[simp] theorem raiseFlag_gie : (raiseFlag s).gie = s.gie := rfl
@[simp] theorem raiseFlag_cfg : (raiseFlag s).cfg = s.cfg := rfl
@[simp] theorem raiseFlag_clkdiv : (raiseFlag s).clkdiv = s.clkdiv := rfl
@[simp] theorem raiseFlag_clksrc : (raiseFlag s).clksrc = s.clksrc := rfl
@[simp] theorem raiseFlag_sleepcond : (raiseFlag s).sleepcond = s.sleepcond := rfl
@[simp] theorem raiseFlag_mem : (raiseFlag s).mem = s.mem := rfl
@[simp] theorem raiseFlag_w : (raiseFlag s).w = s.w := rfl
@[simp] theorem raiseFlag_k : (raiseFlag s).k = s.k := rfl
@[simp] theorem raiseFlag_nackslot : (raiseFlag s).nackslot = s.nackslot := rfl
@[simp] theorem raiseFlag_idleOut : (raiseFlag s).idleOut = s.idleOut := rfl
@[simp] theorem raiseFlag_srOut : (raiseFlag s).srOut = s.srOut := rfl
@[simp] theorem raiseFlag_rangeBase : (raiseFlag s).rangeBase = s.rangeBase := rfl
@[simp] theorem raiseFlag_rangeCount : (raiseFlag s).rangeCount = s.rangeCount := rfl
@[simp] theorem raiseFlag_notPlain : (raiseFlag s).notPlain = s.notPlain := rfl
@[simp] theorem raiseFlag_program : (raiseFlag s).program = s.program := rfl
@[simp] theorem raiseFlag_injects : (raiseFlag s).injects = s.injects := rfl
@[simp] theorem raiseFlag_answers : (raiseFlag s).answers = s.answers := rfl
@[simp] theorem raiseFlag_direct : (raiseFlag s).direct = s.direct := rfl
@[simp] theorem raiseFlag_sched : (raiseFlag s).sched = s.sched := rfl
@[simp] theorem raiseFlag_draws : (raiseFlag s).draws = s.draws := rfl
@[simp] theorem raiseFlag_zeroLenCheck : (raiseFlag s).zeroLenCheck = s.zeroLenCheck := rfl

/-! ## `clearFlag` -/

@[simp] theorem clearFlag_tstate : (clearFlag s).tstate = s.tstate := rfl
@[simp] theorem clearFlag_phase : (clearFlag s).phase = s.phase := rfl
@[simp] theorem clearFlag_ctrl : (clearFlag s).ctrl = s.ctrl := rfl
@[simp] theorem clearFlag_ptr : (clearFlag s).ptr = s.ptr := rfl
@[simp] theorem clearFlag_len : (clearFlag s).len = s.len := rfl
@[simp] theorem clearFlag_rpt : (clearFlag s).rpt = s.rpt := rfl
@[simp] theorem clearFlag_wmask : (clearFlag s).wmask = s.wmask := rfl
@[simp] theorem clearFlag_sr : (clearFlag s).sr = s.sr := rfl
@[simp] theorem clearFlag_cnt : (clearFlag s).cnt = s.cnt := rfl
@[simp] theorem clearFlag_oe : (clearFlag s).oe = s.oe := rfl
@[simp] theorem clearFlag_ge : (clearFlag s).ge = s.ge := rfl
@[simp] theorem clearFlag_ifg : (clearFlag s).ifg = false := rfl
@[simp] theorem clearFlag_gie : (clearFlag s).gie = s.gie := rfl
@[simp] theorem clearFlag_cfg : (clearFlag s).cfg = s.cfg := rfl
@[simp] theorem clearFlag_clkdiv : (clearFlag s).clkdiv = s.clkdiv := rfl
@[simp] theorem clearFlag_clksrc : (clearFlag s).clksrc = s.clksrc := rfl
@[simp] theorem clearFlag_sleepcond : (clearFlag s).sleepcond = s.sleepcond := rfl
@[simp] theorem clearFlag_mem : (clearFlag s).mem = s.mem := rfl
@[simp] theorem clearFlag_w : (clearFlag s).w = s.w := rfl
@[simp] theorem clearFlag_k : (clearFlag s).k = s.k := rfl
@[simp] theorem clearFlag_nackslot : (clearFlag s).nackslot = s.nackslot := rfl
@[simp] theorem clearFlag_idleOut : (clearFlag s).idleOut = s.idleOut := rfl
@[simp] theorem clearFlag_srOut : (clearFlag s).srOut = s.srOut := rfl
@[simp] theorem clearFlag_rangeBase : (clearFlag s).rangeBase = s.rangeBase := rfl
@[simp] theorem clearFlag_rangeCount : (clearFlag s).rangeCount = s.rangeCount := rfl
@[simp] theorem clearFlag_notPlain : (clearFlag s).notPlain = s.notPlain := rfl
@[simp] theorem clearFlag_program : (clearFlag s).program = s.program := rfl
@[simp] theorem clearFlag_injects : (clearFlag s).injects = s.injects := rfl
@[simp] theorem clearFlag_answers : (clearFlag s).answers = s.answers := rfl
@[simp] theorem clearFlag_direct : (clearFlag s).direct = s.direct := rfl
@[simp] theorem clearFlag_sched : (clearFlag s).sched = s.sched := rfl
@[simp] theorem clearFlag_draws : (clearFlag s).draws = s.draws := rfl
@[simp] theorem clearFlag_zeroLenCheck : (clearFlag s).zeroLenCheck = s.zeroLenCheck := rfl

/-! ## `takeInterrupt` -/

@[simp] theorem takeInterrupt_tstate : (takeInterrupt s).tstate = s.tstate := rfl
@[simp] theorem takeInterrupt_phase : (takeInterrupt s).phase = s.phase := rfl
@[simp] theorem takeInterrupt_ctrl : (takeInterrupt s).ctrl = s.ctrl := rfl
@[simp] theorem takeInterrupt_ptr : (takeInterrupt s).ptr = s.ptr := rfl
@[simp] theorem takeInterrupt_len : (takeInterrupt s).len = s.len := rfl
@[simp] theorem takeInterrupt_rpt : (takeInterrupt s).rpt = s.rpt := rfl
@[simp] theorem takeInterrupt_wmask : (takeInterrupt s).wmask = s.wmask := rfl
@[simp] theorem takeInterrupt_sr : (takeInterrupt s).sr = s.sr := rfl
@[simp] theorem takeInterrupt_cnt : (takeInterrupt s).cnt = s.cnt := rfl
@[simp] theorem takeInterrupt_oe : (takeInterrupt s).oe = s.oe := rfl
@[simp] theorem takeInterrupt_ge : (takeInterrupt s).ge = s.ge := rfl
@[simp] theorem takeInterrupt_ifg : (takeInterrupt s).ifg = false := rfl
@[simp] theorem takeInterrupt_gie : (takeInterrupt s).gie = s.gie := rfl
@[simp] theorem takeInterrupt_cfg : (takeInterrupt s).cfg = s.cfg := rfl
@[simp] theorem takeInterrupt_clkdiv : (takeInterrupt s).clkdiv = s.clkdiv := rfl
@[simp] theorem takeInterrupt_clksrc : (takeInterrupt s).clksrc = s.clksrc := rfl
@[simp] theorem takeInterrupt_sleepcond : (takeInterrupt s).sleepcond = s.sleepcond := rfl
@[simp] theorem takeInterrupt_mem : (takeInterrupt s).mem = s.mem := rfl
@[simp] theorem takeInterrupt_w : (takeInterrupt s).w = s.w := rfl
@[simp] theorem takeInterrupt_k : (takeInterrupt s).k = s.k := rfl
@[simp] theorem takeInterrupt_nackslot : (takeInterrupt s).nackslot = s.nackslot := rfl
@[simp] theorem takeInterrupt_idleOut : (takeInterrupt s).idleOut = s.idleOut := rfl
@[simp] theorem takeInterrupt_srOut : (takeInterrupt s).srOut = s.srOut := rfl
@[simp] theorem takeInterrupt_rangeBase : (takeInterrupt s).rangeBase = s.rangeBase := rfl
@[simp] theorem takeInterrupt_rangeCount : (takeInterrupt s).rangeCount = s.rangeCount := rfl
@[simp] theorem takeInterrupt_notPlain : (takeInterrupt s).notPlain = s.notPlain := rfl
@[simp] theorem takeInterrupt_program : (takeInterrupt s).program = s.program := rfl
@[simp] theorem takeInterrupt_injects : (takeInterrupt s).injects = s.injects := rfl
@[simp] theorem takeInterrupt_answers : (takeInterrupt s).answers = s.answers := rfl
@[simp] theorem takeInterrupt_direct : (takeInterrupt s).direct = s.direct := rfl
@[simp] theorem takeInterrupt_sched : (takeInterrupt s).sched = s.sched := rfl
@[simp] theorem takeInterrupt_draws : (takeInterrupt s).draws = s.draws := rfl
@[simp] theorem takeInterrupt_zeroLenCheck : (takeInterrupt s).zeroLenCheck = s.zeroLenCheck := rfl

/-! ## `disableIrq` -/

@[simp] theorem disableIrq_tstate : (disableIrq s).tstate = s.tstate := rfl
@[simp] theorem disableIrq_phase : (disableIrq s).phase = s.phase := rfl
@[simp] theorem disableIrq_ctrl : (disableIrq s).ctrl = s.ctrl := rfl
@[simp] theorem disableIrq_ptr : (disableIrq s).ptr = s.ptr := rfl
@[simp] theorem disableIrq_len : (disableIrq s).len = s.len := rfl
@[simp] theorem disableIrq_rpt : (disableIrq s).rpt = s.rpt := rfl
@[simp] theorem disableIrq_wmask : (disableIrq s).wmask = s.wmask := rfl
@[simp] theorem disableIrq_sr : (disableIrq s).sr = s.sr := rfl
@[simp] theorem disableIrq_cnt : (disableIrq s).cnt = s.cnt := rfl
@[simp] theorem disableIrq_oe : (disableIrq s).oe = s.oe := rfl
@[simp] theorem disableIrq_ge : (disableIrq s).ge = s.ge := rfl
@[simp] theorem disableIrq_ifg : (disableIrq s).ifg = s.ifg := rfl
@[simp] theorem disableIrq_gie : (disableIrq s).gie = false := rfl
@[simp] theorem disableIrq_cfg : (disableIrq s).cfg = s.cfg := rfl
@[simp] theorem disableIrq_clkdiv : (disableIrq s).clkdiv = s.clkdiv := rfl
@[simp] theorem disableIrq_clksrc : (disableIrq s).clksrc = s.clksrc := rfl
@[simp] theorem disableIrq_sleepcond : (disableIrq s).sleepcond = s.sleepcond := rfl
@[simp] theorem disableIrq_mem : (disableIrq s).mem = s.mem := rfl
@[simp] theorem disableIrq_w : (disableIrq s).w = s.w := rfl
@[simp] theorem disableIrq_k : (disableIrq s).k = s.k := rfl
@[simp] theorem disableIrq_nackslot : (disableIrq s).nackslot = s.nackslot := rfl
@[simp] theorem disableIrq_idleOut : (disableIrq s).idleOut = s.idleOut := rfl
@[simp] theorem disableIrq_srOut : (disableIrq s).srOut = s.srOut := rfl
@[simp] theorem disableIrq_rangeBase : (disableIrq s).rangeBase = s.rangeBase := rfl
@[simp] theorem disableIrq_rangeCount : (disableIrq s).rangeCount = s.rangeCount := rfl
@[simp] theorem disableIrq_notPlain : (disableIrq s).notPlain = s.notPlain := rfl
@[simp] theorem disableIrq_program : (disableIrq s).program = s.program := rfl
@[simp] theorem disableIrq_injects : (disableIrq s).injects = s.injects := rfl
@[simp] theorem disableIrq_answers : (disableIrq s).answers = s.answers := rfl
@[simp] theorem disableIrq_direct : (disableIrq s).direct = s.direct := rfl
@[simp] theorem disableIrq_sched : (disableIrq s).sched = s.sched := rfl
@[simp] theorem disableIrq_draws : (disableIrq s).draws = s.draws := rfl
@[simp] theorem disableIrq_zeroLenCheck : (disableIrq s).zeroLenCheck = s.zeroLenCheck := rfl

/-! ## `enableIrq` -/

@[simp] theorem enableIrq_tstate : (enableIrq s).tstate = s.tstate := rfl
@[simp] theorem enableIrq_phase : (enableIrq s).phase = s.phase := rfl
@[simp] theorem enableIrq_ctrl : (enableIrq s).ctrl = s.ctrl := rfl
@[simp] theorem enableIrq_ptr : (enableIrq s).ptr = s.ptr := rfl
@[simp] theorem enableIrq_len : (enableIrq s).len = s.len := rfl
@[simp] theorem enableIrq_rpt : (enableIrq s).rpt = s.rpt := rfl
@[simp] theorem enableIrq_wmask : (enableIrq s).wmask = s.wmask := rfl
@[simp] theorem enableIrq_sr : (enableIrq s).sr = s.sr := rfl
@[simp] theorem enableIrq_cnt : (enableIrq s).cnt = s.cnt := rfl
@[simp] theorem enableIrq_oe : (enableIrq s).oe = s.oe := rfl
@[simp] theorem enableIrq_ge : (enableIrq s).ge = s.ge := rfl
@[simp] theorem enableIrq_ifg : (enableIrq s).ifg = s.ifg := rfl
@[simp] theorem enableIrq_gie : (enableIrq s).gie = true := rfl
@[simp] theorem enableIrq_cfg : (enableIrq s).cfg = s.cfg := rfl
@[simp] theorem enableIrq_clkdiv : (enableIrq s).clkdiv = s.clkdiv := rfl
@[simp] theorem enableIrq_clksrc : (enableIrq s).clksrc = s.clksrc := rfl
@[simp] theorem enableIrq_sleepcond : (enableIrq s).sleepcond = s.sleepcond := rfl
@[simp] theorem enableIrq_mem : (enableIrq s).mem = s.mem := rfl
@[simp] theorem enableIrq_w : (enableIrq s).w = s.w := rfl
@[simp] theorem enableIrq_k : (enableIrq s).k = s.k := rfl
@[simp] theorem enableIrq_nackslot : (enableIrq s).nackslot = s.nackslot := rfl
@[simp] theorem enableIrq_idleOut : (enableIrq s).idleOut = s.idleOut := rfl
@[simp] theorem enableIrq_srOut : (enableIrq s).srOut = s.srOut := rfl
@[simp] theorem enableIrq_rangeBase : (enableIrq s).rangeBase = s.rangeBase := rfl
@[simp] theorem enableIrq_rangeCount : (enableIrq s).rangeCount = s.rangeCount := rfl
@[simp] theorem enableIrq_notPlain : (enableIrq s).notPlain = s.notPlain := rfl
@[simp] theorem enableIrq_program : (enableIrq s).program = s.program := rfl
@[simp] theorem enableIrq_injects : (enableIrq s).injects = s.injects := rfl
@[simp] theorem enableIrq_answers : (enableIrq s).answers = s.answers := rfl
@[simp] theorem enableIrq_direct : (enableIrq s).direct = s.direct := rfl
@[simp] theorem enableIrq_sched : (enableIrq s).sched = s.sched := rfl
@[simp] theorem enableIrq_draws : (enableIrq s).draws = s.draws := rfl
@[simp] theorem enableIrq_zeroLenCheck : (enableIrq s).zeroLenCheck = s.zeroLenCheck := rfl

/-! ## `setOE` -/

@[simp] theorem setOE_tstate (en : Bool) : (setOE en s).tstate = s.tstate := rfl
@[simp] theorem setOE_phase (en : Bool) : (setOE en s).phase = s.phase := rfl
@[simp] theorem setOE_ctrl (en : Bool) : (setOE en s).ctrl = s.ctrl := rfl
@[simp] theorem setOE_ptr (en : Bool) : (setOE en s).ptr = s.ptr := rfl
@[simp] theorem setOE_len (en : Bool) : (setOE en s).len = s.len := rfl
@[simp] theorem setOE_rpt (en : Bool) : (setOE en s).rpt = s.rpt := rfl
@[simp] theorem setOE_wmask (en : Bool) : (setOE en s).wmask = s.wmask := rfl
@[simp] theorem setOE_sr (en : Bool) : (setOE en s).sr = s.sr := rfl
@[simp] theorem setOE_cnt (en : Bool) : (setOE en s).cnt = s.cnt := rfl
@[simp] theorem setOE_oe (en : Bool) : (setOE en s).oe = en := rfl
@[simp] theorem setOE_ge (en : Bool) : (setOE en s).ge = s.ge := rfl
@[simp] theorem setOE_ifg (en : Bool) : (setOE en s).ifg = s.ifg := rfl
@[simp] theorem setOE_gie (en : Bool) : (setOE en s).gie = s.gie := rfl
@[simp] theorem setOE_cfg (en : Bool) : (setOE en s).cfg = s.cfg := rfl
@[simp] theorem setOE_clkdiv (en : Bool) : (setOE en s).clkdiv = s.clkdiv := rfl
@[simp] theorem setOE_clksrc (en : Bool) : (setOE en s).clksrc = s.clksrc := rfl
@[simp] theorem setOE_sleepcond (en : Bool) : (setOE en s).sleepcond = s.sleepcond := rfl
@[simp] theorem setOE_mem (en : Bool) : (setOE en s).mem = s.mem := rfl
@[simp] theorem setOE_w (en : Bool) : (setOE en s).w = s.w := rfl
@[simp] theorem setOE_k (en : Bool) : (setOE en s).k = s.k := rfl
@[simp] theorem setOE_nackslot (en : Bool) : (setOE en s).nackslot = s.nackslot := rfl
@[simp] theorem setOE_idleOut (en : Bool) : (setOE en s).idleOut = s.idleOut := rfl
@[simp] theorem setOE_srOut (en : Bool) : (setOE en s).srOut = s.srOut := rfl
@[simp] theorem setOE_rangeBase (en : Bool) : (setOE en s).rangeBase = s.rangeBase := rfl
@[simp] theorem setOE_rangeCount (en : Bool) : (setOE en s).rangeCount = s.rangeCount := rfl
@[simp] theorem setOE_notPlain (en : Bool) : (setOE en s).notPlain = s.notPlain := rfl
@[simp] theorem setOE_program (en : Bool) : (setOE en s).program = s.program := rfl
@[simp] theorem setOE_injects (en : Bool) : (setOE en s).injects = s.injects := rfl
@[simp] theorem setOE_answers (en : Bool) : (setOE en s).answers = s.answers := rfl
@[simp] theorem setOE_direct (en : Bool) : (setOE en s).direct = s.direct := rfl
@[simp] theorem setOE_sched (en : Bool) : (setOE en s).sched = s.sched := rfl
@[simp] theorem setOE_draws (en : Bool) : (setOE en s).draws = s.draws := rfl
@[simp] theorem setOE_zeroLenCheck (en : Bool) : (setOE en s).zeroLenCheck = s.zeroLenCheck := rfl

/-! ## `appendWire` -/

@[simp] theorem appendWire_tstate (e : WireEvent) : (appendWire e s).tstate = s.tstate := rfl
@[simp] theorem appendWire_phase (e : WireEvent) : (appendWire e s).phase = s.phase := rfl
@[simp] theorem appendWire_ctrl (e : WireEvent) : (appendWire e s).ctrl = s.ctrl := rfl
@[simp] theorem appendWire_ptr (e : WireEvent) : (appendWire e s).ptr = s.ptr := rfl
@[simp] theorem appendWire_len (e : WireEvent) : (appendWire e s).len = s.len := rfl
@[simp] theorem appendWire_rpt (e : WireEvent) : (appendWire e s).rpt = s.rpt := rfl
@[simp] theorem appendWire_wmask (e : WireEvent) : (appendWire e s).wmask = s.wmask := rfl
@[simp] theorem appendWire_sr (e : WireEvent) : (appendWire e s).sr = s.sr := rfl
@[simp] theorem appendWire_cnt (e : WireEvent) : (appendWire e s).cnt = s.cnt := rfl
@[simp] theorem appendWire_oe (e : WireEvent) : (appendWire e s).oe = s.oe := rfl
@[simp] theorem appendWire_ge (e : WireEvent) : (appendWire e s).ge = s.ge := rfl
@[simp] theorem appendWire_ifg (e : WireEvent) : (appendWire e s).ifg = s.ifg := rfl
@[simp] theorem appendWire_gie (e : WireEvent) : (appendWire e s).gie = s.gie := rfl
@[simp] theorem appendWire_cfg (e : WireEvent) : (appendWire e s).cfg = s.cfg := rfl
@[simp] theorem appendWire_clkdiv (e : WireEvent) : (appendWire e s).clkdiv = s.clkdiv := rfl
@[simp] theorem appendWire_clksrc (e : WireEvent) : (appendWire e s).clksrc = s.clksrc := rfl
@[simp] theorem appendWire_sleepcond (e : WireEvent) : (appendWire e s).sleepcond = s.sleepcond := rfl
@[simp] theorem appendWire_mem (e : WireEvent) : (appendWire e s).mem = s.mem := rfl
@[simp] theorem appendWire_w (e : WireEvent) : (appendWire e s).w = s.w ++ [e] := rfl
@[simp] theorem appendWire_k (e : WireEvent) : (appendWire e s).k = s.k := rfl
@[simp] theorem appendWire_nackslot (e : WireEvent) : (appendWire e s).nackslot = s.nackslot := rfl
@[simp] theorem appendWire_idleOut (e : WireEvent) : (appendWire e s).idleOut = s.idleOut := rfl
@[simp] theorem appendWire_srOut (e : WireEvent) : (appendWire e s).srOut = s.srOut := rfl
@[simp] theorem appendWire_rangeBase (e : WireEvent) : (appendWire e s).rangeBase = s.rangeBase := rfl
@[simp] theorem appendWire_rangeCount (e : WireEvent) : (appendWire e s).rangeCount = s.rangeCount := rfl
@[simp] theorem appendWire_notPlain (e : WireEvent) : (appendWire e s).notPlain = s.notPlain := rfl
@[simp] theorem appendWire_program (e : WireEvent) : (appendWire e s).program = s.program := rfl
@[simp] theorem appendWire_injects (e : WireEvent) : (appendWire e s).injects = s.injects := rfl
@[simp] theorem appendWire_answers (e : WireEvent) : (appendWire e s).answers = s.answers := rfl
@[simp] theorem appendWire_direct (e : WireEvent) : (appendWire e s).direct = s.direct := rfl
@[simp] theorem appendWire_sched (e : WireEvent) : (appendWire e s).sched = s.sched := rfl
@[simp] theorem appendWire_draws (e : WireEvent) : (appendWire e s).draws = s.draws := rfl
@[simp] theorem appendWire_zeroLenCheck (e : WireEvent) : (appendWire e s).zeroLenCheck = s.zeroLenCheck := rfl

/-! ## `pulseStartLatch` -/

@[simp] theorem pulseStartLatch_tstate : (pulseStartLatch s).tstate = s.tstate := rfl
@[simp] theorem pulseStartLatch_phase : (pulseStartLatch s).phase = s.phase := rfl
@[simp] theorem pulseStartLatch_ctrl : (pulseStartLatch s).ctrl = s.ctrl := rfl
@[simp] theorem pulseStartLatch_ptr : (pulseStartLatch s).ptr = s.ptr := rfl
@[simp] theorem pulseStartLatch_len : (pulseStartLatch s).len = s.len := rfl
@[simp] theorem pulseStartLatch_rpt : (pulseStartLatch s).rpt = s.rpt := rfl
@[simp] theorem pulseStartLatch_wmask : (pulseStartLatch s).wmask = s.wmask := rfl
@[simp] theorem pulseStartLatch_sr : (pulseStartLatch s).sr = s.sr := rfl
@[simp] theorem pulseStartLatch_cnt : (pulseStartLatch s).cnt = s.cnt := rfl
@[simp] theorem pulseStartLatch_oe : (pulseStartLatch s).oe = s.oe := rfl
@[simp] theorem pulseStartLatch_ge : (pulseStartLatch s).ge = false := rfl
@[simp] theorem pulseStartLatch_ifg : (pulseStartLatch s).ifg = s.ifg := rfl
@[simp] theorem pulseStartLatch_gie : (pulseStartLatch s).gie = s.gie := rfl
@[simp] theorem pulseStartLatch_cfg : (pulseStartLatch s).cfg = s.cfg := rfl
@[simp] theorem pulseStartLatch_clkdiv : (pulseStartLatch s).clkdiv = s.clkdiv := rfl
@[simp] theorem pulseStartLatch_clksrc : (pulseStartLatch s).clksrc = s.clksrc := rfl
@[simp] theorem pulseStartLatch_sleepcond : (pulseStartLatch s).sleepcond = s.sleepcond := rfl
@[simp] theorem pulseStartLatch_mem : (pulseStartLatch s).mem = s.mem := rfl
@[simp] theorem pulseStartLatch_w : (pulseStartLatch s).w = s.w ++ [.start] := rfl
@[simp] theorem pulseStartLatch_k : (pulseStartLatch s).k = s.k := rfl
@[simp] theorem pulseStartLatch_nackslot : (pulseStartLatch s).nackslot = s.nackslot := rfl
@[simp] theorem pulseStartLatch_idleOut : (pulseStartLatch s).idleOut = s.idleOut := rfl
@[simp] theorem pulseStartLatch_srOut : (pulseStartLatch s).srOut = s.srOut := rfl
@[simp] theorem pulseStartLatch_rangeBase : (pulseStartLatch s).rangeBase = s.rangeBase := rfl
@[simp] theorem pulseStartLatch_rangeCount : (pulseStartLatch s).rangeCount = s.rangeCount := rfl
@[simp] theorem pulseStartLatch_notPlain : (pulseStartLatch s).notPlain = s.notPlain := rfl
@[simp] theorem pulseStartLatch_program : (pulseStartLatch s).program = s.program := rfl
@[simp] theorem pulseStartLatch_injects : (pulseStartLatch s).injects = s.injects := rfl
@[simp] theorem pulseStartLatch_answers : (pulseStartLatch s).answers = s.answers := rfl
@[simp] theorem pulseStartLatch_direct : (pulseStartLatch s).direct = s.direct := rfl
@[simp] theorem pulseStartLatch_sched : (pulseStartLatch s).sched = s.sched := rfl
@[simp] theorem pulseStartLatch_draws : (pulseStartLatch s).draws = s.draws := rfl
@[simp] theorem pulseStartLatch_zeroLenCheck : (pulseStartLatch s).zeroLenCheck = s.zeroLenCheck := rfl

/-! ## `drawSR` -/

@[simp] theorem drawSR_tstate : (drawSR s).tstate = s.tstate := rfl
@[simp] theorem drawSR_phase : (drawSR s).phase = s.phase := rfl
@[simp] theorem drawSR_ctrl : (drawSR s).ctrl = s.ctrl := rfl
@[simp] theorem drawSR_ptr : (drawSR s).ptr = s.ptr := rfl
@[simp] theorem drawSR_len : (drawSR s).len = s.len := rfl
@[simp] theorem drawSR_rpt : (drawSR s).rpt = s.rpt := rfl
@[simp] theorem drawSR_wmask : (drawSR s).wmask = s.wmask := rfl
@[simp] theorem drawSR_sr : (drawSR s).sr = Config.freeByte s.draws := rfl
@[simp] theorem drawSR_cnt : (drawSR s).cnt = s.cnt := rfl
@[simp] theorem drawSR_oe : (drawSR s).oe = s.oe := rfl
@[simp] theorem drawSR_ge : (drawSR s).ge = s.ge := rfl
@[simp] theorem drawSR_ifg : (drawSR s).ifg = s.ifg := rfl
@[simp] theorem drawSR_gie : (drawSR s).gie = s.gie := rfl
@[simp] theorem drawSR_cfg : (drawSR s).cfg = s.cfg := rfl
@[simp] theorem drawSR_clkdiv : (drawSR s).clkdiv = s.clkdiv := rfl
@[simp] theorem drawSR_clksrc : (drawSR s).clksrc = s.clksrc := rfl
@[simp] theorem drawSR_sleepcond : (drawSR s).sleepcond = s.sleepcond := rfl
@[simp] theorem drawSR_mem : (drawSR s).mem = s.mem := rfl
@[simp] theorem drawSR_w : (drawSR s).w = s.w := rfl
@[simp] theorem drawSR_k : (drawSR s).k = s.k := rfl
@[simp] theorem drawSR_nackslot : (drawSR s).nackslot = s.nackslot := rfl
@[simp] theorem drawSR_idleOut : (drawSR s).idleOut = s.idleOut := rfl
@[simp] theorem drawSR_srOut : (drawSR s).srOut = s.srOut := rfl
@[simp] theorem drawSR_rangeBase : (drawSR s).rangeBase = s.rangeBase := rfl
@[simp] theorem drawSR_rangeCount : (drawSR s).rangeCount = s.rangeCount := rfl
@[simp] theorem drawSR_notPlain : (drawSR s).notPlain = s.notPlain := rfl
@[simp] theorem drawSR_program : (drawSR s).program = s.program := rfl
@[simp] theorem drawSR_injects : (drawSR s).injects = s.injects := rfl
@[simp] theorem drawSR_answers : (drawSR s).answers = s.answers := rfl
@[simp] theorem drawSR_direct : (drawSR s).direct = s.direct := rfl
@[simp] theorem drawSR_sched : (drawSR s).sched = s.sched := rfl
@[simp] theorem drawSR_draws : (drawSR s).draws = s.draws + 1 := rfl
@[simp] theorem drawSR_zeroLenCheck : (drawSR s).zeroLenCheck = s.zeroLenCheck := rfl

/-! ## `endShift` -/

@[simp] theorem endShift_tstate : (endShift s).tstate = s.tstate := rfl
@[simp] theorem endShift_phase : (endShift s).phase = s.phase := rfl
@[simp] theorem endShift_ctrl : (endShift s).ctrl = s.ctrl := rfl
@[simp] theorem endShift_ptr : (endShift s).ptr = s.ptr := rfl
@[simp] theorem endShift_len : (endShift s).len = s.len := rfl
@[simp] theorem endShift_rpt : (endShift s).rpt = s.rpt := rfl
@[simp] theorem endShift_wmask : (endShift s).wmask = s.wmask := rfl
@[simp] theorem endShift_sr : (endShift s).sr = s.sr := rfl
@[simp] theorem endShift_cnt : (endShift s).cnt = 0 := rfl
@[simp] theorem endShift_oe : (endShift s).oe = s.oe := rfl
@[simp] theorem endShift_ge : (endShift s).ge = s.ge := rfl
@[simp] theorem endShift_ifg : (endShift s).ifg = true := rfl
@[simp] theorem endShift_gie : (endShift s).gie = s.gie := rfl
@[simp] theorem endShift_cfg : (endShift s).cfg = s.cfg := rfl
@[simp] theorem endShift_clkdiv : (endShift s).clkdiv = s.clkdiv := rfl
@[simp] theorem endShift_clksrc : (endShift s).clksrc = s.clksrc := rfl
@[simp] theorem endShift_sleepcond : (endShift s).sleepcond = s.sleepcond := rfl
@[simp] theorem endShift_mem : (endShift s).mem = s.mem := rfl
@[simp] theorem endShift_w : (endShift s).w = s.w := rfl
@[simp] theorem endShift_k : (endShift s).k = s.k := rfl
@[simp] theorem endShift_nackslot : (endShift s).nackslot = s.nackslot := rfl
@[simp] theorem endShift_idleOut : (endShift s).idleOut = s.idleOut := rfl
@[simp] theorem endShift_srOut : (endShift s).srOut = s.srOut := rfl
@[simp] theorem endShift_rangeBase : (endShift s).rangeBase = s.rangeBase := rfl
@[simp] theorem endShift_rangeCount : (endShift s).rangeCount = s.rangeCount := rfl
@[simp] theorem endShift_notPlain : (endShift s).notPlain = s.notPlain := rfl
@[simp] theorem endShift_program : (endShift s).program = s.program := rfl
@[simp] theorem endShift_injects : (endShift s).injects = s.injects := rfl
@[simp] theorem endShift_answers : (endShift s).answers = s.answers := rfl
@[simp] theorem endShift_direct : (endShift s).direct = s.direct := rfl
@[simp] theorem endShift_sched : (endShift s).sched = s.sched := rfl
@[simp] theorem endShift_draws : (endShift s).draws = s.draws := rfl
@[simp] theorem endShift_zeroLenCheck : (endShift s).zeroLenCheck = s.zeroLenCheck := rfl

/-! ## `enterState` -/

@[simp] theorem enterState_tstate (c : BitVec 8) : (enterState c s).tstate = c := rfl
@[simp] theorem enterState_phase (c : BitVec 8) : (enterState c s).phase = s.phase := rfl
@[simp] theorem enterState_ctrl (c : BitVec 8) : (enterState c s).ctrl = s.ctrl := rfl
@[simp] theorem enterState_ptr (c : BitVec 8) : (enterState c s).ptr = s.ptr := rfl
@[simp] theorem enterState_len (c : BitVec 8) : (enterState c s).len = s.len := rfl
@[simp] theorem enterState_rpt (c : BitVec 8) : (enterState c s).rpt = s.rpt := rfl
@[simp] theorem enterState_wmask (c : BitVec 8) : (enterState c s).wmask = s.wmask := rfl
@[simp] theorem enterState_sr (c : BitVec 8) : (enterState c s).sr = s.sr := rfl
@[simp] theorem enterState_cnt (c : BitVec 8) : (enterState c s).cnt = s.cnt := rfl
@[simp] theorem enterState_oe (c : BitVec 8) : (enterState c s).oe = s.oe := rfl
@[simp] theorem enterState_ge (c : BitVec 8) : (enterState c s).ge = s.ge := rfl
@[simp] theorem enterState_ifg (c : BitVec 8) : (enterState c s).ifg = s.ifg := rfl
@[simp] theorem enterState_gie (c : BitVec 8) : (enterState c s).gie = s.gie := rfl
@[simp] theorem enterState_cfg (c : BitVec 8) : (enterState c s).cfg = s.cfg := rfl
@[simp] theorem enterState_clkdiv (c : BitVec 8) : (enterState c s).clkdiv = s.clkdiv := rfl
@[simp] theorem enterState_clksrc (c : BitVec 8) : (enterState c s).clksrc = s.clksrc := rfl
@[simp] theorem enterState_sleepcond (c : BitVec 8) : (enterState c s).sleepcond = s.sleepcond := rfl
@[simp] theorem enterState_mem (c : BitVec 8) : (enterState c s).mem = s.mem := rfl
@[simp] theorem enterState_w (c : BitVec 8) : (enterState c s).w = s.w := rfl
@[simp] theorem enterState_k (c : BitVec 8) : (enterState c s).k = s.k := rfl
@[simp] theorem enterState_nackslot (c : BitVec 8) : (enterState c s).nackslot = s.nackslot := rfl
@[simp] theorem enterState_idleOut (c : BitVec 8) : (enterState c s).idleOut = s.idleOut := rfl
@[simp] theorem enterState_srOut (c : BitVec 8) : (enterState c s).srOut = s.srOut := rfl
@[simp] theorem enterState_rangeBase (c : BitVec 8) : (enterState c s).rangeBase = s.rangeBase := rfl
@[simp] theorem enterState_rangeCount (c : BitVec 8) : (enterState c s).rangeCount = s.rangeCount := rfl
@[simp] theorem enterState_notPlain (c : BitVec 8) : (enterState c s).notPlain = s.notPlain := rfl
@[simp] theorem enterState_program (c : BitVec 8) : (enterState c s).program = s.program := rfl
@[simp] theorem enterState_injects (c : BitVec 8) : (enterState c s).injects = s.injects := rfl
@[simp] theorem enterState_answers (c : BitVec 8) : (enterState c s).answers = s.answers := rfl
@[simp] theorem enterState_direct (c : BitVec 8) : (enterState c s).direct = s.direct := rfl
@[simp] theorem enterState_sched (c : BitVec 8) : (enterState c s).sched = s.sched := rfl
@[simp] theorem enterState_draws (c : BitVec 8) : (enterState c s).draws = s.draws := rfl
@[simp] theorem enterState_zeroLenCheck (c : BitVec 8) : (enterState c s).zeroLenCheck = s.zeroLenCheck := rfl

/-! ## `configure` -/

@[simp] theorem configure_tstate (d : ClkDiv) (c : ClkSrc) : (configure d c s).tstate = s.tstate := rfl
@[simp] theorem configure_phase (d : ClkDiv) (c : ClkSrc) : (configure d c s).phase = s.phase := rfl
@[simp] theorem configure_ctrl (d : ClkDiv) (c : ClkSrc) : (configure d c s).ctrl = s.ctrl := rfl
@[simp] theorem configure_ptr (d : ClkDiv) (c : ClkSrc) : (configure d c s).ptr = s.ptr := rfl
@[simp] theorem configure_len (d : ClkDiv) (c : ClkSrc) : (configure d c s).len = s.len := rfl
@[simp] theorem configure_rpt (d : ClkDiv) (c : ClkSrc) : (configure d c s).rpt = s.rpt := rfl
@[simp] theorem configure_wmask (d : ClkDiv) (c : ClkSrc) : (configure d c s).wmask = s.wmask := rfl
@[simp] theorem configure_sr (d : ClkDiv) (c : ClkSrc) : (configure d c s).sr = Config.freeByte s.draws := rfl
@[simp] theorem configure_cnt (d : ClkDiv) (c : ClkSrc) : (configure d c s).cnt = 0 := rfl
@[simp] theorem configure_oe (d : ClkDiv) (c : ClkSrc) : (configure d c s).oe = false := rfl
@[simp] theorem configure_ge (d : ClkDiv) (c : ClkSrc) : (configure d c s).ge = false := rfl
@[simp] theorem configure_ifg (d : ClkDiv) (c : ClkSrc) : (configure d c s).ifg = s.ifg := rfl
@[simp] theorem configure_gie (d : ClkDiv) (c : ClkSrc) : (configure d c s).gie = s.gie := rfl
@[simp] theorem configure_cfg (d : ClkDiv) (c : ClkSrc) : (configure d c s).cfg = true := rfl
@[simp] theorem configure_clkdiv (d : ClkDiv) (c : ClkSrc) : (configure d c s).clkdiv = d := rfl
@[simp] theorem configure_clksrc (d : ClkDiv) (c : ClkSrc) : (configure d c s).clksrc = c := rfl
@[simp] theorem configure_sleepcond (d : ClkDiv) (c : ClkSrc) : (configure d c s).sleepcond = s.sleepcond := rfl
@[simp] theorem configure_mem (d : ClkDiv) (c : ClkSrc) : (configure d c s).mem = s.mem := rfl
@[simp] theorem configure_w (d : ClkDiv) (c : ClkSrc) : (configure d c s).w = s.w := rfl
@[simp] theorem configure_k (d : ClkDiv) (c : ClkSrc) : (configure d c s).k = s.k := rfl
@[simp] theorem configure_nackslot (d : ClkDiv) (c : ClkSrc) : (configure d c s).nackslot = s.nackslot := rfl
@[simp] theorem configure_idleOut (d : ClkDiv) (c : ClkSrc) : (configure d c s).idleOut = s.idleOut := rfl
@[simp] theorem configure_srOut (d : ClkDiv) (c : ClkSrc) : (configure d c s).srOut = s.srOut := rfl
@[simp] theorem configure_rangeBase (d : ClkDiv) (c : ClkSrc) : (configure d c s).rangeBase = s.rangeBase := rfl
@[simp] theorem configure_rangeCount (d : ClkDiv) (c : ClkSrc) : (configure d c s).rangeCount = s.rangeCount := rfl
@[simp] theorem configure_notPlain (d : ClkDiv) (c : ClkSrc) : (configure d c s).notPlain = s.notPlain := rfl
@[simp] theorem configure_program (d : ClkDiv) (c : ClkSrc) : (configure d c s).program = s.program := rfl
@[simp] theorem configure_injects (d : ClkDiv) (c : ClkSrc) : (configure d c s).injects = s.injects := rfl
@[simp] theorem configure_answers (d : ClkDiv) (c : ClkSrc) : (configure d c s).answers = s.answers := rfl
@[simp] theorem configure_direct (d : ClkDiv) (c : ClkSrc) : (configure d c s).direct = s.direct := rfl
@[simp] theorem configure_sched (d : ClkDiv) (c : ClkSrc) : (configure d c s).sched = s.sched := rfl
@[simp] theorem configure_draws (d : ClkDiv) (c : ClkSrc) : (configure d c s).draws = s.draws + 1 := rfl
@[simp] theorem configure_zeroLenCheck (d : ClkDiv) (c : ClkSrc) : (configure d c s).zeroLenCheck = s.zeroLenCheck := rfl

/-! ## `recordIdle` -/

@[simp] theorem recordIdle_tstate : (recordIdle s).tstate = s.tstate := rfl
@[simp] theorem recordIdle_phase : (recordIdle s).phase = s.phase := rfl
@[simp] theorem recordIdle_ctrl : (recordIdle s).ctrl = s.ctrl := rfl
@[simp] theorem recordIdle_ptr : (recordIdle s).ptr = s.ptr := rfl
@[simp] theorem recordIdle_len : (recordIdle s).len = s.len := rfl
@[simp] theorem recordIdle_rpt : (recordIdle s).rpt = s.rpt := rfl
@[simp] theorem recordIdle_wmask : (recordIdle s).wmask = s.wmask := rfl
@[simp] theorem recordIdle_sr : (recordIdle s).sr = s.sr := rfl
@[simp] theorem recordIdle_cnt : (recordIdle s).cnt = s.cnt := rfl
@[simp] theorem recordIdle_oe : (recordIdle s).oe = s.oe := rfl
@[simp] theorem recordIdle_ge : (recordIdle s).ge = s.ge := rfl
@[simp] theorem recordIdle_ifg : (recordIdle s).ifg = s.ifg := rfl
@[simp] theorem recordIdle_gie : (recordIdle s).gie = s.gie := rfl
@[simp] theorem recordIdle_cfg : (recordIdle s).cfg = s.cfg := rfl
@[simp] theorem recordIdle_clkdiv : (recordIdle s).clkdiv = s.clkdiv := rfl
@[simp] theorem recordIdle_clksrc : (recordIdle s).clksrc = s.clksrc := rfl
@[simp] theorem recordIdle_sleepcond : (recordIdle s).sleepcond = s.sleepcond := rfl
@[simp] theorem recordIdle_mem : (recordIdle s).mem = s.mem := rfl
@[simp] theorem recordIdle_w : (recordIdle s).w = s.w := rfl
@[simp] theorem recordIdle_k : (recordIdle s).k = s.k := rfl
@[simp] theorem recordIdle_nackslot : (recordIdle s).nackslot = s.nackslot := rfl
@[simp] theorem recordIdle_idleOut : (recordIdle s).idleOut = isIdle s := rfl
@[simp] theorem recordIdle_srOut : (recordIdle s).srOut = s.srOut := rfl
@[simp] theorem recordIdle_rangeBase : (recordIdle s).rangeBase = s.rangeBase := rfl
@[simp] theorem recordIdle_rangeCount : (recordIdle s).rangeCount = s.rangeCount := rfl
@[simp] theorem recordIdle_notPlain : (recordIdle s).notPlain = s.notPlain := rfl
@[simp] theorem recordIdle_program : (recordIdle s).program = s.program := rfl
@[simp] theorem recordIdle_injects : (recordIdle s).injects = s.injects := rfl
@[simp] theorem recordIdle_answers : (recordIdle s).answers = s.answers := rfl
@[simp] theorem recordIdle_direct : (recordIdle s).direct = s.direct := rfl
@[simp] theorem recordIdle_sched : (recordIdle s).sched = s.sched := rfl
@[simp] theorem recordIdle_draws : (recordIdle s).draws = s.draws := rfl
@[simp] theorem recordIdle_zeroLenCheck : (recordIdle s).zeroLenCheck = s.zeroLenCheck := rfl

/-! ## `sleepHost` -/

@[simp] theorem sleepHost_tstate (m : WakeMask) : (sleepHost m s).tstate = s.tstate := rfl
@[simp] theorem sleepHost_phase (m : WakeMask) : (sleepHost m s).phase = s.phase := rfl
@[simp] theorem sleepHost_ctrl (m : WakeMask) : (sleepHost m s).ctrl = s.ctrl := rfl
@[simp] theorem sleepHost_ptr (m : WakeMask) : (sleepHost m s).ptr = s.ptr := rfl
@[simp] theorem sleepHost_len (m : WakeMask) : (sleepHost m s).len = s.len := rfl
@[simp] theorem sleepHost_rpt (m : WakeMask) : (sleepHost m s).rpt = s.rpt := rfl
@[simp] theorem sleepHost_wmask (m : WakeMask) : (sleepHost m s).wmask = s.wmask := rfl
@[simp] theorem sleepHost_sr (m : WakeMask) : (sleepHost m s).sr = s.sr := rfl
@[simp] theorem sleepHost_cnt (m : WakeMask) : (sleepHost m s).cnt = s.cnt := rfl
@[simp] theorem sleepHost_oe (m : WakeMask) : (sleepHost m s).oe = s.oe := rfl
@[simp] theorem sleepHost_ge (m : WakeMask) : (sleepHost m s).ge = s.ge := rfl
@[simp] theorem sleepHost_ifg (m : WakeMask) : (sleepHost m s).ifg = s.ifg := rfl
@[simp] theorem sleepHost_gie (m : WakeMask) : (sleepHost m s).gie = s.gie := rfl
@[simp] theorem sleepHost_cfg (m : WakeMask) : (sleepHost m s).cfg = s.cfg := rfl
@[simp] theorem sleepHost_clkdiv (m : WakeMask) : (sleepHost m s).clkdiv = s.clkdiv := rfl
@[simp] theorem sleepHost_clksrc (m : WakeMask) : (sleepHost m s).clksrc = s.clksrc := rfl
@[simp] theorem sleepHost_sleepcond (m : WakeMask) : (sleepHost m s).sleepcond = s.sleepcond ||| m := rfl
@[simp] theorem sleepHost_mem (m : WakeMask) : (sleepHost m s).mem = s.mem := rfl
@[simp] theorem sleepHost_w (m : WakeMask) : (sleepHost m s).w = s.w := rfl
@[simp] theorem sleepHost_k (m : WakeMask) : (sleepHost m s).k = s.k := rfl
@[simp] theorem sleepHost_nackslot (m : WakeMask) : (sleepHost m s).nackslot = s.nackslot := rfl
@[simp] theorem sleepHost_idleOut (m : WakeMask) : (sleepHost m s).idleOut = s.idleOut := rfl
@[simp] theorem sleepHost_srOut (m : WakeMask) : (sleepHost m s).srOut = s.srOut := rfl
@[simp] theorem sleepHost_rangeBase (m : WakeMask) : (sleepHost m s).rangeBase = s.rangeBase := rfl
@[simp] theorem sleepHost_rangeCount (m : WakeMask) : (sleepHost m s).rangeCount = s.rangeCount := rfl
@[simp] theorem sleepHost_notPlain (m : WakeMask) : (sleepHost m s).notPlain = s.notPlain := rfl
@[simp] theorem sleepHost_program (m : WakeMask) : (sleepHost m s).program = s.program := rfl
@[simp] theorem sleepHost_injects (m : WakeMask) : (sleepHost m s).injects = s.injects := rfl
@[simp] theorem sleepHost_answers (m : WakeMask) : (sleepHost m s).answers = s.answers := rfl
@[simp] theorem sleepHost_direct (m : WakeMask) : (sleepHost m s).direct = s.direct := rfl
@[simp] theorem sleepHost_sched (m : WakeMask) : (sleepHost m s).sched = s.sched := rfl
@[simp] theorem sleepHost_draws (m : WakeMask) : (sleepHost m s).draws = s.draws := rfl
@[simp] theorem sleepHost_zeroLenCheck (m : WakeMask) : (sleepHost m s).zeroLenCheck = s.zeroLenCheck := rfl

/-! ## `passTurn` and `wakeHost`, which look at the state first -/

@[simp] theorem passTurn_tstate : (passTurn s).tstate = s.tstate := by unfold passTurn; split <;> rfl
@[simp] theorem passTurn_phase : (passTurn s).phase = s.phase := by unfold passTurn; split <;> rfl
@[simp] theorem passTurn_ctrl : (passTurn s).ctrl = s.ctrl := by unfold passTurn; split <;> rfl
@[simp] theorem passTurn_ptr : (passTurn s).ptr = s.ptr := by unfold passTurn; split <;> rfl
@[simp] theorem passTurn_len : (passTurn s).len = s.len := by unfold passTurn; split <;> rfl
@[simp] theorem passTurn_rpt : (passTurn s).rpt = s.rpt := by unfold passTurn; split <;> rfl
@[simp] theorem passTurn_wmask : (passTurn s).wmask = s.wmask := by unfold passTurn; split <;> rfl
@[simp] theorem passTurn_sr : (passTurn s).sr = s.sr := by unfold passTurn; split <;> rfl
@[simp] theorem passTurn_cnt : (passTurn s).cnt = s.cnt := by unfold passTurn; split <;> rfl
@[simp] theorem passTurn_oe : (passTurn s).oe = s.oe := by unfold passTurn; split <;> rfl
@[simp] theorem passTurn_ge : (passTurn s).ge = s.ge := by unfold passTurn; split <;> rfl
@[simp] theorem passTurn_ifg : (passTurn s).ifg = s.ifg := by unfold passTurn; split <;> rfl
@[simp] theorem passTurn_gie : (passTurn s).gie = s.gie := by unfold passTurn; split <;> rfl
@[simp] theorem passTurn_cfg : (passTurn s).cfg = s.cfg := by unfold passTurn; split <;> rfl
@[simp] theorem passTurn_clkdiv : (passTurn s).clkdiv = s.clkdiv := by unfold passTurn; split <;> rfl
@[simp] theorem passTurn_clksrc : (passTurn s).clksrc = s.clksrc := by unfold passTurn; split <;> rfl
@[simp] theorem passTurn_sleepcond : (passTurn s).sleepcond = s.sleepcond := by unfold passTurn; split <;> rfl
@[simp] theorem passTurn_mem : (passTurn s).mem = s.mem := by unfold passTurn; split <;> rfl
@[simp] theorem passTurn_w : (passTurn s).w = s.w := by unfold passTurn; split <;> rfl
@[simp] theorem passTurn_k : (passTurn s).k = s.k := by unfold passTurn; split <;> rfl
@[simp] theorem passTurn_nackslot : (passTurn s).nackslot = s.nackslot := by unfold passTurn; split <;> rfl
@[simp] theorem passTurn_idleOut : (passTurn s).idleOut = s.idleOut := by unfold passTurn; split <;> rfl
@[simp] theorem passTurn_srOut : (passTurn s).srOut = s.srOut := by unfold passTurn; split <;> rfl
@[simp] theorem passTurn_rangeBase : (passTurn s).rangeBase = s.rangeBase := by unfold passTurn; split <;> rfl
@[simp] theorem passTurn_rangeCount : (passTurn s).rangeCount = s.rangeCount := by unfold passTurn; split <;> rfl
@[simp] theorem passTurn_notPlain : (passTurn s).notPlain = s.notPlain := by unfold passTurn; split <;> rfl
@[simp] theorem passTurn_program : (passTurn s).program = s.program := by unfold passTurn; split <;> rfl
@[simp] theorem passTurn_injects : (passTurn s).injects = s.injects := by unfold passTurn; split <;> rfl
@[simp] theorem passTurn_answers : (passTurn s).answers = s.answers := by unfold passTurn; split <;> rfl
@[simp] theorem passTurn_direct : (passTurn s).direct = s.direct := by unfold passTurn; split <;> rfl
@[simp] theorem passTurn_zeroLenCheck : (passTurn s).zeroLenCheck = s.zeroLenCheck := by unfold passTurn; split <;> rfl
theorem passTurn_sched : (passTurn s).sched = s.sched.tail := by unfold passTurn; split <;> simp_all

@[simp] theorem wakeHost_tstate : (wakeHost s).tstate = s.tstate := by unfold wakeHost; split <;> rfl
@[simp] theorem wakeHost_phase : (wakeHost s).phase = s.phase := by unfold wakeHost; split <;> rfl
@[simp] theorem wakeHost_ctrl : (wakeHost s).ctrl = s.ctrl := by unfold wakeHost; split <;> rfl
@[simp] theorem wakeHost_ptr : (wakeHost s).ptr = s.ptr := by unfold wakeHost; split <;> rfl
@[simp] theorem wakeHost_len : (wakeHost s).len = s.len := by unfold wakeHost; split <;> rfl
@[simp] theorem wakeHost_rpt : (wakeHost s).rpt = s.rpt := by unfold wakeHost; split <;> rfl
@[simp] theorem wakeHost_wmask : (wakeHost s).wmask = s.wmask := by unfold wakeHost; split <;> rfl
@[simp] theorem wakeHost_sr : (wakeHost s).sr = s.sr := by unfold wakeHost; split <;> rfl
@[simp] theorem wakeHost_cnt : (wakeHost s).cnt = s.cnt := by unfold wakeHost; split <;> rfl
@[simp] theorem wakeHost_oe : (wakeHost s).oe = s.oe := by unfold wakeHost; split <;> rfl
@[simp] theorem wakeHost_ge : (wakeHost s).ge = s.ge := by unfold wakeHost; split <;> rfl
@[simp] theorem wakeHost_ifg : (wakeHost s).ifg = s.ifg := by unfold wakeHost; split <;> rfl
@[simp] theorem wakeHost_gie : (wakeHost s).gie = s.gie := by unfold wakeHost; split <;> rfl
@[simp] theorem wakeHost_cfg : (wakeHost s).cfg = s.cfg := by unfold wakeHost; split <;> rfl
@[simp] theorem wakeHost_clkdiv : (wakeHost s).clkdiv = s.clkdiv := by unfold wakeHost; split <;> rfl
@[simp] theorem wakeHost_clksrc : (wakeHost s).clksrc = s.clksrc := by unfold wakeHost; split <;> rfl
@[simp] theorem wakeHost_mem : (wakeHost s).mem = s.mem := by unfold wakeHost; split <;> rfl
@[simp] theorem wakeHost_w : (wakeHost s).w = s.w := by unfold wakeHost; split <;> rfl
@[simp] theorem wakeHost_nackslot : (wakeHost s).nackslot = s.nackslot := by unfold wakeHost; split <;> rfl
@[simp] theorem wakeHost_idleOut : (wakeHost s).idleOut = s.idleOut := by unfold wakeHost; split <;> rfl
@[simp] theorem wakeHost_srOut : (wakeHost s).srOut = s.srOut := by unfold wakeHost; split <;> rfl
@[simp] theorem wakeHost_rangeBase : (wakeHost s).rangeBase = s.rangeBase := by unfold wakeHost; split <;> rfl
@[simp] theorem wakeHost_rangeCount : (wakeHost s).rangeCount = s.rangeCount := by unfold wakeHost; split <;> rfl
@[simp] theorem wakeHost_notPlain : (wakeHost s).notPlain = s.notPlain := by unfold wakeHost; split <;> rfl
@[simp] theorem wakeHost_program : (wakeHost s).program = s.program := by unfold wakeHost; split <;> rfl
@[simp] theorem wakeHost_injects : (wakeHost s).injects = s.injects := by unfold wakeHost; split <;> rfl
@[simp] theorem wakeHost_answers : (wakeHost s).answers = s.answers := by unfold wakeHost; split <;> rfl
@[simp] theorem wakeHost_direct : (wakeHost s).direct = s.direct := by unfold wakeHost; split <;> rfl
@[simp] theorem wakeHost_sched : (wakeHost s).sched = s.sched := by unfold wakeHost; split <;> rfl
@[simp] theorem wakeHost_draws : (wakeHost s).draws = s.draws := by unfold wakeHost; split <;> rfl
@[simp] theorem wakeHost_zeroLenCheck : (wakeHost s).zeroLenCheck = s.zeroLenCheck := by unfold wakeHost; split <;> rfl
theorem wakeHost_sleepcond : (wakeHost s).sleepcond = clearedConditions s.sleepcond s.wmask := by
  unfold wakeHost; split <;> simp_all [clearedConditions]

end Sys2Proof.Machine
end

