-- ==== Sys2Proof/Laws/Ops.lean ====
section
/-! SUPPORT. One lemma for each shared operation that can stop: when it answers a next state, and which one. -/

namespace Sys2Proof.Machine

variable {s t : State}

@[simp] theorem andThen_next (f : State → Result) : andThen (.next s) f = f s := rfl
@[simp] theorem andThen_fault (e : Fault) (f : State → Result) : andThen (.fault e) f = .fault e := rfl
@[simp] theorem andThen_refused (e : Refusal) (f : State → Result) : andThen (.refused e) f = .refused e := rfl

/-- Equal next states, with the answered one on the left. -/
theorem next_eq_next : (Host.Outcome.next s : Result) = .next t ↔ t = s := by
  rw [Host.Outcome.next.injEq]; exact eq_comm

theorem andThen_eq_next {r : Result} {f : State → Result} :
    andThen r f = .next t ↔ ∃ u, r = .next u ∧ f u = .next t := by
  cases r <;> simp [andThen]

@[simp] theorem rejected_ne_next (e : Reject) : (rejected e = .next t) = False := by cases e <;> simp [rejected]

theorem loadSR_eq_next {b : Byte} : loadSR b s = .next t ↔ s.cnt = 0 ∧ t = { s with sr := b } := by
  by_cases h : s.cnt = 0 <;> simp [loadSR, h, next_eq_next, -Host.Outcome.next.injEq]

theorem commandShift_eq_next {n : Nat} :
    commandShift n s = .next t ↔ legalShiftCount n = true ∧ t = { s with cnt := n } := by
  by_cases h : legalShiftCount n = true <;> simp [commandShift, h, next_eq_next, -Host.Outcome.next.injEq]

@[simp] theorem commandShift_one : commandShift 1 s = .next { s with cnt := 1 } := rfl
@[simp] theorem commandShift_eight : commandShift 8 s = .next { s with cnt := 8 } := rfl

theorem loadSR_of_cnt (h : s.cnt = 0) (b : Byte) : loadSR b s = .next { s with sr := b } := by simp [loadSR, h]

/-- All that `prepareStop` can do (41_sequencer_steps R101). -/
theorem stopPreparation_eq_next :
    stopPreparation s = .next t ↔
      s.cnt = 0 ∧ t = { s with oe := true, sr := 0x00#8, cnt := 1, tstate := StateCode.stop } := by
  by_cases h : s.cnt = 0
  · simp [stopPreparation, loadSR, h, setOE, enterState, eq_comm]
  · simp [stopPreparation, loadSR, h]

/-- All that `XFER_ADDR` can do (41_sequencer_steps R98). -/
theorem loadAddress_eq_next :
    loadAddress s = .next t ↔ s.cnt = 0 ∧ t = { s with sr := addrByte, phase := PhaseCode.sendControl } := by
  by_cases h : s.cnt = 0 <;> simp [loadAddress, loadSR, h, eq_comm]

/-- All that `XFER_CTRL` can do (41_sequencer_steps R99). -/
theorem loadControl_eq_next :
    loadControl s = .next t ↔ s.cnt = 0 ∧ t = { s with sr := s.ctrl, phase := PhaseCode.sendPayload } := by
  by_cases h : s.cnt = 0 <;> simp [loadControl, loadSR, h, eq_comm]

/-- All that `XFER_PAYLOAD` can do (41_sequencer_steps R100). -/
theorem loadPayload_eq_next :
    loadPayload s = .next t ↔
      plainMemory s s.ptr.toNat = true ∧ s.cnt = 0 ∧
        t = { s with sr := Memory.read s.mem s.ptr.toNat, ptr := nextCursor s.ptr s.rpt,
                     len := s.len - 1#Config.lenW } := by
  by_cases hp : plainMemory s s.ptr.toNat = true
  · by_cases h : s.cnt = 0 <;> simp [loadPayload, readPayload, hp, loadSR, h, eq_comm]
  · simp [loadPayload, readPayload, hp]

/-- A successful load by phase is one of the three loads (41_sequencer_steps R97). -/
theorem loadByPhase_eq_next :
    loadByPhase s = .next t ↔
      (s.phase = PhaseCode.sendAddress ∧ loadAddress s = .next t) ∨
      (s.phase = PhaseCode.sendControl ∧ loadControl s = .next t) ∨
      (s.phase = PhaseCode.sendPayload ∧ loadPayload s = .next t) := by
  have d1 : PhaseCode.sendControl ≠ PhaseCode.sendAddress := by decide
  have d2 : PhaseCode.sendPayload ≠ PhaseCode.sendAddress := by decide
  have d3 : PhaseCode.sendPayload ≠ PhaseCode.sendControl := by decide
  unfold loadByPhase
  split
  · rename_i h; simp [h, d1.symm, d2.symm]
  · split
    · rename_i h; simp [h, d1, d3.symm]
    · split
      · rename_i h; simp [h, d2, d3]
      · simp_all

/-- The states a byte can be loaded into (41_sequencer_steps R97): the load of `PHASE`, with the line driven and 8 bits
commanded. -/
theorem byteTransfer_eq_next :
    byteTransfer s = .next t ↔
      ∃ u, loadByPhase (setOE true s) = .next u ∧ t = { u with cnt := 8, tstate := StateCode.prepareAckNack } := by
  simp [byteTransfer, andThen_eq_next, enterState, next_eq_next, -Host.Outcome.next.injEq]

/-- When the test of `LEN = 0` sends `prepareTransfer` to the stop (41_sequencer_steps R97 and its case (c)). -/
theorem lengthStops_iff {z : ZeroLenCheck} :
    lengthStops z s = true ↔ s.len = 0#_ ∧ (z = .everyCall ∨ s.phase = PhaseCode.sendPayload) := by
  cases z <;> simp [lengthStops, and_comm]

theorem lengthStops_eq_false {z : ZeroLenCheck} :
    lengthStops z s = false ↔ ¬ (s.len = 0#_ ∧ (z = .everyCall ∨ s.phase = PhaseCode.sendPayload)) := by
  rw [← lengthStops_iff, Bool.not_eq_true]

/-- A length that is not 0 never stops `prepareTransfer`, whatever the setting. -/
theorem lengthStops_of_len {z : ZeroLenCheck} (h : s.len ≠ 0#_) : lengthStops z s = false := by
  simpa [h] using lengthStops_iff (s := s) (z := z)

/-- The test of the length reads `LEN` and `PHASE` only. -/
theorem lengthStops_congr {z : ZeroLenCheck} (hl : t.len = s.len) (hp : t.phase = s.phase) :
    lengthStops z t = lengthStops z s := by
  unfold lengthStops; rw [hl, hp]

/-- What `prepareTransfer` can do (41_sequencer_steps R97). -/
theorem nextTransfer_eq :
    nextTransfer s = if lengthStops s.zeroLenCheck s then stopPreparation s else byteTransfer s := rfl

/-- For a length that is not 0 `prepareTransfer` sends a byte, whatever the setting. -/
theorem nextTransfer_of_len (h : s.len ≠ 0#_) : nextTransfer s = byteTransfer s := by
  simp [nextTransfer_eq, lengthStops_of_len h]

/-- A byte loaded by `prepareTransfer` starts from `CNT = 0` and leaves everything but these registers alone. -/
theorem byteTransfer_frame (h : byteTransfer s = .next t) :
    s.cnt = 0 ∧ ∃ b p q l, t = { s with oe := true, sr := b, phase := p, ptr := q, len := l, cnt := 8, tstate := StateCode.prepareAckNack } := by
  obtain ⟨u, hu, rfl⟩ := byteTransfer_eq_next.1 h
  rcases loadByPhase_eq_next.1 hu with ⟨_, h'⟩ | ⟨_, h'⟩ | ⟨_, h'⟩
  · obtain ⟨hc, rfl⟩ := loadAddress_eq_next.1 h'
    exact ⟨by simpa using hc, _, _, _, _, rfl⟩
  · obtain ⟨hc, rfl⟩ := loadControl_eq_next.1 h'
    exact ⟨by simpa using hc, _, _, _, _, rfl⟩
  · obtain ⟨_, hc, rfl⟩ := loadPayload_eq_next.1 h'
    exact ⟨by simpa using hc, _, _, _, _, rfl⟩

/-- When a host write is taken (20_memory R43). -/
theorem hostWrite_eq_next {a : Addr} {b : Byte} :
    hostWrite a b s = .next t ↔
      (isIdle s = true ∨ inPayloadRange s a.toNat = false) ∧ t = { s with mem := Memory.write s.mem a.toNat b } := by
  unfold hostWrite
  cases isIdle s <;> cases inPayloadRange s a.toNat <;> simp [next_eq_next, -Host.Outcome.next.injEq]

/-- When an injected interrupt is taken (60_exceptions R147). -/
theorem inject_eq_next : inject s = .next t ↔ isIdle s = true ∧ s.cnt = 0 ∧ t = { s with ifg := true } := by
  unfold inject
  cases h : isIdle s <;> by_cases hc : s.cnt = 0 <;> simp [hc, raiseFlag, next_eq_next, -Host.Outcome.next.injEq]

theorem isIdle_iff : isIdle s = true ↔ s.tstate = StateCode.idle := by simp [isIdle]
theorem hostRunning_iff : hostRunning s = true ↔ s.sleepcond = 0#_ := by simp [hostRunning]
theorem sequencerEnabled_iff : sequencerEnabled s = true ↔ s.ifg = true ∧ s.gie = true ∧ s.cfg = true := by
  simp [sequencerEnabled, and_assoc]
theorem peripheralEnabled_iff : peripheralEnabled s = true ↔ s.cfg = true ∧ s.cnt ≠ 0 := by
  simp [peripheralEnabled]

end Sys2Proof.Machine
end

