-- ==== Sys2Proof/Laws/PerInstr.lean ====
section
/-! SUPPORT. Statements about every instruction as syntax, with one lemma per constructor. -/

namespace Sys2Proof.Laws.CodeMatchesTable

/-- The code the encoder gives an operation fits the operation's row of spec/opcode_table.json (30_encoding R71). -/
def Statement (i : Instr) : Prop := i.row.fits (encode i).code = true

theorem isidle : Statement .isidle := by simp only [Statement, Instr.row, encode]; rfl
theorem init (div : ClkDiv) (src : ClkSrc) : Statement (.init div src) := by simp only [Statement, Instr.row, encode]; rfl
theorem submit (ctrl : Byte) (ptr : Addr) (len : Len) (rpt : Bool) (wmask : WakeMask) : Statement (.submit ctrl ptr len rpt wmask) := by simp only [Statement, Instr.row, encode]; rfl
theorem irqIdle : Statement .irqIdle := by simp only [Statement, Instr.row, encode]; rfl
theorem irqStart : Statement .irqStart := by simp only [Statement, Instr.row, encode]; rfl
theorem irqPrepack : Statement .irqPrepack := by simp only [Statement, Instr.row, encode]; rfl
theorem irqRxtx : Statement .irqRxtx := by simp only [Statement, Instr.row, encode]; rfl
theorem irqPrepstop : Statement .irqPrepstop := by simp only [Statement, Instr.row, encode]; rfl
theorem irqStop : Statement .irqStop := by simp only [Statement, Instr.row, encode]; rfl
theorem xferAddr : Statement .xferAddr := by simp only [Statement, Instr.row, encode]; rfl
theorem xferCtrl : Statement .xferCtrl := by simp only [Statement, Instr.row, encode]; rfl
theorem xferPayload : Statement .xferPayload := by simp only [Statement, Instr.row, encode]; rfl
theorem loadShiftRegister (b : Byte) : Statement (.loadShiftRegister b) := by simp only [Statement, Instr.row, encode]; rfl
theorem readShiftRegister : Statement .readShiftRegister := by simp only [Statement, Instr.row, encode]; rfl
theorem shiftBits (n : Nat) : Statement (.shiftBits n) := by simp only [Statement, Instr.row, encode]; rfl
theorem setOutputEnable (en : Bool) : Statement (.setOutputEnable en) := by simp only [Statement, Instr.row, encode]; rfl
theorem assertStartLatch : Statement .assertStartLatch := by simp only [Statement, Instr.row, encode]; rfl
theorem raiseInterruptFlag : Statement .raiseInterruptFlag := by simp only [Statement, Instr.row, encode]; rfl
theorem clearInterruptFlag : Statement .clearInterruptFlag := by simp only [Statement, Instr.row, encode]; rfl
theorem configurePeripheral (div : ClkDiv) (src : ClkSrc) : Statement (.configurePeripheral div src) := by simp only [Statement, Instr.row, encode]; rfl
theorem disableInterrupts : Statement .disableInterrupts := by simp only [Statement, Instr.row, encode]; rfl
theorem enableInterrupts : Statement .enableInterrupts := by simp only [Statement, Instr.row, encode]; rfl
theorem shiftTx8 : Statement .shiftTx8 := by simp only [Statement, Instr.row, encode]; rfl
theorem shiftRx1 : Statement .shiftRx1 := by simp only [Statement, Instr.row, encode]; rfl
theorem shiftTx1 : Statement .shiftTx1 := by simp only [Statement, Instr.row, encode]; rfl
theorem prepareTransfer : Statement .prepareTransfer := by simp only [Statement, Instr.row, encode]; rfl
theorem prepareStop : Statement .prepareStop := by simp only [Statement, Instr.row, encode]; rfl

end Sys2Proof.Laws.CodeMatchesTable
end

