-- ==== Sys2Proof/Laws/Step.lean ====
section
/-! SUPPORT. What one step can be: the operation presented by itself, or one agent's turn. -/

namespace Sys2Proof.Machine

variable {s t : State}

/-- A step with nothing presented by itself is the turn of the agent that moves. -/
theorem step_of_turn (h : s.direct = none) : step s = agentTurn (turn s) (passTurn s) := by
  simp [step, oneStep, h]

/-- A step with an operation presented by itself runs that operation. -/
theorem step_of_direct {x : OpWord} (h : s.direct = some x) : step s = runDirect x s := by
  simp [step, oneStep, h]

/-- A `SUBMIT` that is not refused records the transaction in `Idle` and has no effect otherwise
(40_host_operations R82). -/
theorem execSubmit_eq_next {ctrl : Byte} {ptr : Addr} {len : Len} {rpt : Bool} {wmask : WakeMask} :
    execSubmit ctrl ptr len rpt wmask s = .next t ↔
      submitRefusal ctrl ptr len rpt s = none ∧
        t = if isIdle s then recordTransaction ctrl ptr len rpt wmask s else s := by
  unfold execSubmit
  cases submitRefusal ctrl ptr len rpt s <;> cases isIdle s <;> simp [next_eq_next, -Host.Outcome.next.injEq]

/-- A `SUBMIT` that is not refused runs on a configured engine with a legal control byte (40_host_operations R82). -/
theorem submitRefusal_eq_none {ctrl : Byte} {ptr : Addr} {len : Len} {rpt : Bool} :
    submitRefusal ctrl ptr len rpt s = none ↔
      s.cfg = true ∧ legalControlByte ctrl = true ∧ payloadWraps ptr len rpt = false := by
  unfold submitRefusal
  cases s.cfg <;> cases legalControlByte ctrl <;> cases payloadWraps ptr len rpt <;> simp

/-- `INIT` answers a next state on an engine that is not configured (40_host_operations R81). -/
theorem execInit_eq_next {div : ClkDiv} {src : ClkSrc} :
    execInit div src s = .next t ↔
      s.cfg = false ∧ t = enableIrq (clearFlag (configure div src (disableIrq s))) := by
  unfold execInit
  cases s.cfg <;> simp [next_eq_next, -Host.Outcome.next.injEq]

/-- A turn of the sequencer that answers a next state ran an entry, or the sequencer had no step. -/
theorem sequencerTurn_cases (h : sequencerTurn s = .next t) :
    (sequencerEnabled s = true ∧ ∃ i, decodeSeq s.tstate = .ok i ∧ exec i s = .next t) ∨
      (sequencerEnabled s = false ∧ t = s) := by
  unfold sequencerTurn at h
  split at h
  · rename_i he
    refine .inl ⟨he, ?_⟩
    simp only [decode] at h
    split at h
    · simp at h
    · rename_i i hi; exact ⟨i, hi, h⟩
  · rename_i he
    exact .inr ⟨by simpa using he, by simpa [eq_comm] using h⟩

/-- The operations the sequencer's decoder can select, each with its code. -/
theorem decodeSeq_eq_ok {c : BitVec 8} {i : Instr} (h : decodeSeq c = .ok i) :
    (c = StateCode.idle ∧ i = .irqIdle) ∨ (c = StateCode.start ∧ i = .irqStart) ∨
    (c = StateCode.prepareAckNack ∧ i = .irqPrepack) ∨ (c = StateCode.handleRxTx ∧ i = .irqRxtx) ∨
    (c = StateCode.prepareStop ∧ i = .irqPrepstop) ∨ (c = StateCode.stop ∧ i = .irqStop) := by
  unfold decodeSeq at h
  repeat' split at h
  all_goals simp_all

/-- The form of `SHIFT` by `CNT` and `OE` (42_peripheral_primitives R120). -/
theorem shiftForm_eq_ok {i : Instr} (h : shiftForm s = .ok i) :
    (s.cnt = 8 ∧ s.oe = true ∧ i = .shiftTx8) ∨ (s.cnt = 1 ∧ s.oe = false ∧ i = .shiftRx1) ∨
    (s.cnt = 1 ∧ s.oe = true ∧ i = .shiftTx1) := by
  unfold shiftForm at h
  split at h
  · rename_i lt
    generalize s.cnt = cnt at *
    generalize s.oe = oe at *
    interval_cases cnt <;> cases oe <;> simp_all [decode, decodeAgent, agentTuple]
  · simp at h

/-- A turn of the peripheral that answers a next state shifted, or the peripheral had no step. -/
theorem peripheralTurn_cases (h : peripheralTurn s = .next t) :
    (peripheralEnabled s = true ∧
      ((s.cnt = 8 ∧ s.oe = true ∧ execShiftTx8 s = .next t) ∨ (s.cnt = 1 ∧ s.oe = false ∧ execShiftRx1 s = .next t) ∨
        (s.cnt = 1 ∧ s.oe = true ∧ execShiftTx1 s = .next t))) ∨
      (peripheralEnabled s = false ∧ t = s) := by
  unfold peripheralTurn at h
  split at h
  · rename_i he
    refine .inl ⟨he, ?_⟩
    split at h
    · simp at h
    · rename_i i hi
      rcases shiftForm_eq_ok hi with ⟨a, b, rfl⟩ | ⟨a, b, rfl⟩ | ⟨a, b, rfl⟩
      · exact .inl ⟨a, b, h⟩
      · exact .inr (.inl ⟨a, b, h⟩)
      · exact .inr (.inr ⟨a, b, h⟩)
  · rename_i he
    exact .inr ⟨by simpa using he, by simpa [eq_comm] using h⟩

/-- What a host turn that answers a next state can have done to the block: one of the three commands, or a write of host
memory, or a step of sleeping and waiting, or nothing. `u` is the state before the host's program moves on. -/
theorem hostTurn_cases (h : hostTurn s = .next t) :
    t = s ∨ ∃ u prog, t = { u with program := prog } ∧
      (execIsidle s = .next u ∨ (∃ d c, execInit d c s = .next u) ∨
        (∃ ctrl p l r m, execSubmit ctrl p l r m s = .next u) ∨ (∃ a b, hostWrite a b s = .next u) ∨
        (∃ m, u = sleepHost m s) ∨ ∃ m, u = sleepHost m (recordIdle s)) := by
  unfold hostTurn at h
  split at h
  · split at h
    · exact .inl (by simpa [eq_comm] using h)
    · rename_i act rest hp
      cases act with
      | command cmd ports =>
        simp only [hostAction, hostCommand, decode] at h
        split at h
        · simp at h
        · rename_i i hi
          split at h
          · exact .inl (by simpa [eq_comm] using h)
          · obtain ⟨u, hu, ht⟩ := andThen_eq_next.1 h
            refine .inr ⟨u, rest, by simpa [eq_comm] using ht, ?_⟩
            unfold decodeHost at hi
            repeat' split at hi
            all_goals simp only [Except.ok.injEq, reduceCtorEq] at hi
            · subst hi; exact .inl hu
            · subst hi; exact .inr (.inl ⟨_, _, hu⟩)
            · subst hi; exact .inr (.inr (.inl ⟨_, _, _, _, _, hu⟩))
      | memWrite a b =>
        obtain ⟨u, hu, ht⟩ := andThen_eq_next.1 h
        exact .inr ⟨u, rest, by simpa [eq_comm] using ht, .inr (.inr (.inr (.inl ⟨a, b, hu⟩)))⟩
      | sleep m =>
        exact .inr ⟨sleepHost m s, rest, by simpa [hostAction, eq_comm] using h, .inr (.inr (.inr (.inr (.inl ⟨m, rfl⟩))))⟩
      | waitIdle m =>
        simp only [hostAction, waitStep, exec, execIsidle, andThen_next] at h
        split at h
        · exact .inr ⟨recordIdle s, rest, by simpa [eq_comm] using h, .inl rfl⟩
        · split at h
          · exact .inr ⟨sleepHost m (recordIdle s), s.program, (Host.Outcome.next.inj h).symm,
              .inr (.inr (.inr (.inr (.inr ⟨m, rfl⟩))))⟩
          · exact .inr ⟨recordIdle s, _, by simpa [eq_comm] using h, .inl rfl⟩
      | waitSleep m =>
        exact .inr ⟨sleepHost m s, _, by simpa [hostAction, eq_comm] using h, .inr (.inr (.inr (.inr (.inl ⟨m, rfl⟩))))⟩
  · exact .inl (by simpa [eq_comm] using h)

/-- What an environment turn that answers a next state can have done. -/
theorem environmentTurn_cases (h : environmentTurn s = .next t) :
    (s.injects = 0 ∧ t = s) ∨
      ∃ n, s.injects = n + 1 ∧ s.tstate = StateCode.idle ∧ s.cnt = 0 ∧ t = { s with ifg := true, injects := n } := by
  unfold environmentTurn at h
  split at h
  · rename_i h0; exact .inl ⟨h0, by simpa [eq_comm] using h⟩
  · rename_i n hn
    obtain ⟨u, hu, ht⟩ := andThen_eq_next.1 h
    obtain ⟨hi, hc, rfl⟩ := inject_eq_next.1 hu
    exact .inr ⟨n, hn, isIdle_iff.1 hi, hc, by simpa [eq_comm] using ht⟩

end Sys2Proof.Machine
end

