-- ==== Sys2Proof/Laws/Turns.lean ====
section
/-! SUPPORT. What each agent's turn can do, one case for each outcome, and how runs, the wire grammar and the remaining
length unfold by one step. -/

namespace Sys2Proof.Machine

variable {s t : State}

/-- All that `prepareTransfer` can do: the stop, or one of the three loads (41_sequencer_steps R97). -/
theorem nextTransfer_cases (h : nextTransfer s = .next t) :
    s.cnt = 0 ∧
      ((lengthStops s.zeroLenCheck s = true ∧
          t = { s with oe := true, sr := 0x00#8, cnt := 1, tstate := StateCode.stop }) ∨
        (lengthStops s.zeroLenCheck s = false ∧ s.phase = PhaseCode.sendAddress ∧
          t = { s with oe := true, sr := addrByte, phase := PhaseCode.sendControl, cnt := 8,
                       tstate := StateCode.prepareAckNack }) ∨
        (lengthStops s.zeroLenCheck s = false ∧ s.phase = PhaseCode.sendControl ∧
          t = { s with oe := true, sr := s.ctrl, phase := PhaseCode.sendPayload, cnt := 8,
                       tstate := StateCode.prepareAckNack }) ∨
        (s.len ≠ 0#_ ∧ s.phase = PhaseCode.sendPayload ∧ plainMemory s s.ptr.toNat = true ∧
          t = { s with oe := true, sr := Memory.read s.mem s.ptr.toNat, ptr := nextCursor s.ptr s.rpt,
                       len := s.len - 1#_, cnt := 8, tstate := StateCode.prepareAckNack })) := by
  rw [nextTransfer_eq] at h
  split at h
  · rename_i hl
    obtain ⟨hc, rfl⟩ := stopPreparation_eq_next.1 h
    exact ⟨hc, .inl ⟨hl, rfl⟩⟩
  · rename_i hl
    replace hl : lengthStops s.zeroLenCheck s = false := by simpa using hl
    obtain ⟨u, hu, rfl⟩ := byteTransfer_eq_next.1 h
    rcases loadByPhase_eq_next.1 hu with ⟨hp, h'⟩ | ⟨hp, h'⟩ | ⟨hp, h'⟩
    · obtain ⟨hc, rfl⟩ := loadAddress_eq_next.1 h'
      exact ⟨hc, .inr (.inl ⟨hl, hp, rfl⟩)⟩
    · obtain ⟨hc, rfl⟩ := loadControl_eq_next.1 h'
      exact ⟨hc, .inr (.inr (.inl ⟨hl, hp, rfl⟩))⟩
    · obtain ⟨hm, hc, rfl⟩ := loadPayload_eq_next.1 h'
      have hp' : s.phase = PhaseCode.sendPayload := hp
      have hn : s.len ≠ 0#_ := fun h0 => by
        rw [lengthStops_iff.2 ⟨h0, .inr hp'⟩] at hl; exact absurd hl (by decide)
      exact ⟨hc, .inr (.inr (.inr ⟨hn, hp, hm, rfl⟩))⟩

/-- `IRQ_RXTX` prepares the stop on NACK and runs `prepareTransfer` on ACK (41_sequencer_steps R94). -/
theorem execIrqRxtx_cases (h : execIrqRxtx s = .next t) :
    (nackBit s.sr = true ∧ s.cnt = 0 ∧
        t = { s with ifg := false, oe := true, sr := 0x00#8, cnt := 1, tstate := StateCode.stop }) ∨
      (nackBit s.sr = false ∧ nextTransfer { s with ifg := false } = .next t) := by
  unfold execIrqRxtx at h
  split at h
  · rename_i hn
    obtain ⟨hc, rfl⟩ := stopPreparation_eq_next.1 h
    exact .inl ⟨hn, hc, rfl⟩
  · rename_i hn
    exact .inr ⟨by simpa using hn, h⟩

/-- A turn of the sequencer, by `TSTATE` (41_sequencer_steps R90). -/
theorem sequencerTurn_entries (h : sequencerTurn s = .next t) :
    (sequencerEnabled s = false ∧ t = s) ∨
      (sequencerEnabled s = true ∧
        ((s.tstate = StateCode.idle ∧ execIrqIdle s = .next t) ∨
          (s.tstate = StateCode.start ∧ execIrqStart s = .next t) ∨
          (s.tstate = StateCode.prepareAckNack ∧ execIrqPrepack s = .next t) ∨
          (s.tstate = StateCode.handleRxTx ∧ execIrqRxtx s = .next t) ∨
          (s.tstate = StateCode.prepareStop ∧ execIrqPrepstop s = .next t) ∨
          (s.tstate = StateCode.stop ∧ execIrqStop s = .next t))) := by
  rcases sequencerTurn_cases h with ⟨he, i, hi, h⟩ | h
  · refine .inr ⟨he, ?_⟩
    rcases decodeSeq_eq_ok hi with ⟨a, rfl⟩ | ⟨a, rfl⟩ | ⟨a, rfl⟩ | ⟨a, rfl⟩ | ⟨a, rfl⟩ | ⟨a, rfl⟩
    · exact .inl ⟨a, h⟩
    · exact .inr (.inl ⟨a, h⟩)
    · exact .inr (.inr (.inl ⟨a, h⟩))
    · exact .inr (.inr (.inr (.inl ⟨a, h⟩)))
    · exact .inr (.inr (.inr (.inr (.inl ⟨a, h⟩))))
    · exact .inr (.inr (.inr (.inr (.inr ⟨a, h⟩))))
  · exact .inl h

/-- With the interrupt enabled, the entry the code selects runs. -/
theorem sequencerTurn_of_entry {i : Instr} (hf : s.ifg = true) (hg : s.gie = true) (hc : s.cfg = true)
    (h : decodeSeq s.tstate = .ok i) : sequencerTurn s = exec i s := by
  simp [sequencerTurn, sequencerEnabled, hf, hg, hc, decode, h]

/-- With 8 bits commanded and the line driven, the turn is `SHIFT_TX8`. -/
theorem peripheralTurn_of_tx8 (hc : s.cfg = true) (h : s.cnt = 8) (ho : s.oe = true) :
    peripheralTurn s = execShiftTx8 s := by
  simp [peripheralTurn, peripheralEnabled, shiftForm, hc, h, ho, decode, decodeAgent, agentTuple, exec]

/-- With 1 bit commanded and the line released, the turn is `SHIFT_RX1`. -/
theorem peripheralTurn_of_rx1 (hc : s.cfg = true) (h : s.cnt = 1) (ho : s.oe = false) :
    peripheralTurn s = execShiftRx1 s := by
  simp [peripheralTurn, peripheralEnabled, shiftForm, hc, h, ho, decode, decodeAgent, agentTuple, exec]

/-- With 1 bit commanded and the line driven, the turn is `SHIFT_TX1`. -/
theorem peripheralTurn_of_tx1 (hc : s.cfg = true) (h : s.cnt = 1) (ho : s.oe = true) :
    peripheralTurn s = execShiftTx1 s := by
  simp [peripheralTurn, peripheralEnabled, shiftForm, hc, h, ho, decode, decodeAgent, agentTuple, exec]

/-- A host turn writes memory, the sleep register, the idle port and the program at most, or it is `INIT` on an engine not
configured, or a `SUBMIT` in `Idle`; a sleeping host does nothing. -/
theorem hostTurn_effects (h : hostTurn s = .next t) :
    (∃ m sc io prog, t = { s with mem := m, sleepcond := sc, idleOut := io, program := prog } ∧
        (s.sleepcond ≠ 0#_ → m = s.mem ∧ sc = s.sleepcond ∧ io = s.idleOut ∧ prog = s.program)) ∨
      (s.cfg = false ∧ s.sleepcond = 0#_ ∧
        ∃ d c prog, t = { enableIrq (clearFlag (configure d c (disableIrq s))) with program := prog }) ∨
      (s.cfg = true ∧ s.sleepcond = 0#_ ∧ s.tstate = StateCode.idle ∧
        ∃ c p l r m prog, legalControlByte c = true ∧
          t = { recordTransaction c p l r m s with program := prog }) := by
  by_cases hs : s.sleepcond = 0#_
  · rcases hostTurn_cases h with rfl | ⟨u, prog, rfl, hu⟩
    · exact .inl ⟨_, _, _, _, rfl, fun h => absurd hs h⟩
    · rcases hu with hu | ⟨d, c, hu⟩ | ⟨c, p, l, r, m, hu⟩ | ⟨a, b, hu⟩ | ⟨m, rfl⟩ | ⟨m, rfl⟩
      · obtain rfl := next_eq_next.1 hu
        exact .inl ⟨s.mem, s.sleepcond, isIdle s, prog, rfl, fun h => absurd hs h⟩
      · obtain ⟨hc, rfl⟩ := execInit_eq_next.1 hu
        exact .inr (.inl ⟨hc, hs, d, c, prog, rfl⟩)
      · obtain ⟨hr, ht⟩ := execSubmit_eq_next.1 hu
        obtain ⟨hc, hl, _⟩ := submitRefusal_eq_none.1 hr
        cases hi : isIdle s <;> simp [hi] at ht <;> subst ht
        · exact .inl ⟨_, _, _, _, rfl, fun h => absurd hs h⟩
        · exact .inr (.inr ⟨hc, hs, isIdle_iff.1 hi, c, p, l, r, m, prog, hl, rfl⟩)
      · obtain ⟨_, rfl⟩ := hostWrite_eq_next.1 hu
        exact .inl ⟨_, s.sleepcond, s.idleOut, prog, rfl, fun h => absurd hs h⟩
      · exact .inl ⟨s.mem, s.sleepcond ||| m, s.idleOut, prog, rfl, fun h => absurd hs h⟩
      · exact .inl ⟨s.mem, s.sleepcond ||| m, isIdle s, prog, rfl, fun h => absurd hs h⟩
  · have hstay : hostTurn s = .next s := by simp [hostTurn, hostRunning, hs]
    rw [hstay] at h
    obtain rfl := next_eq_next.1 h
    exact .inl ⟨_, _, _, _, rfl, fun _ => ⟨rfl, rfl, rfl, rfl⟩⟩

/-- A step with nothing presented by itself is one of the four turns. -/
theorem step_cases (hd : s.direct = none) (h : step s = .next t) :
    (turn s = .host ∧ hostTurn (passTurn s) = .next t) ∨
      (turn s = .sequencer ∧ sequencerTurn (passTurn s) = .next t) ∨
      (turn s = .peripheral ∧ peripheralTurn (passTurn s) = .next t) ∨
      (turn s = .environment ∧ environmentTurn (passTurn s) = .next t) := by
  rw [step_of_turn hd] at h
  cases ha : turn s <;> simp_all [agentTurn]

/-- A length is 0 exactly when it counts nothing. -/
theorem len_ne_zero {l : Len} : l ≠ 0#_ ↔ l.toNat ≠ 0 := by
  rw [ne_eq, ne_eq, ← BitVec.toNat_inj]; simp

/-- The decrement of a length that is not 0 does not wrap (41_sequencer_steps R102(b)). -/
theorem len_sub_one {l : Len} (h : l ≠ 0#_) : (l - 1#_).toNat = l.toNat - 1 := by
  have h' := len_ne_zero.1 h
  have one : (1#Config.lenW).toNat = 1 := by simp [Config.lenW]
  have := l.isLt
  rw [BitVec.toNat_sub, one, show 2 ^ Config.lenW - 1 + l.toNat = (l.toNat - 1) + 2 ^ Config.lenW by omega,
    Nat.add_mod_right, Nat.mod_eq_of_lt (by omega)]

/-- The command byte's scratch area has two addresses (43_command_layer R130). -/
theorem clTmp_add_one : (Config.clTmp + 1#_).toNat = Config.clTmp.toNat + 1 := by
  have two : 2 ≤ 2 ^ Config.addrW := by
    unfold Config.addrW
    rw [Nat.pow_succ]
    have := Nat.one_le_two_pow (n := Config.addrSpare)
    omega
  have room : Config.clTmp.toNat + 1 < 2 ^ Config.addrW := by
    unfold Config.clTmp
    split
    · rw [BitVec.toNat_ofNat]; simp only [Nat.zero_mod]; omega
    · rename_i h
      have := Config.clTmpFree.isLt
      by_contra hh
      exact h (BitVec.eq_of_toNat_eq (by rw [BitVec.toNat_allOnes]; omega))
  have one : 1 % 2 ^ Config.addrW = 1 := Nat.mod_eq_of_lt (by omega)
  rw [BitVec.toNat_add, BitVec.toNat_ofNat, one, Nat.mod_eq_of_lt (by omega)]

end Sys2Proof.Machine

namespace Sys2Proof.Safety

open Sys2Proof.Machine

/-- The test `prepareTransfer` makes of the length, as R97 words it. -/
theorem lengthStops_iff_zeroLengthStops {s : State} :
    lengthStops s.zeroLenCheck s = true ↔ zeroLengthStops s := lengthStops_iff

theorem lengthStops_eq_false_iff {s : State} :
    lengthStops s.zeroLenCheck s = false ↔ ¬ zeroLengthStops s := lengthStops_eq_false

/-- A run of `k + 1` steps is a step and a run of `k`. -/
theorem steps_of_step {s t : State} {r : Result} {k : Nat} (h : step s = .next t) (h' : steps k t = r) :
    steps (k + 1) s = r := by
  rw [steps, h, andThen_next]; exact h'

/-- The grammar runs over a trace in pieces. -/
theorem wireRun_append {p q : WirePos} {l m : List WireEvent} (h : wireRun p l = some q) :
    wireRun p (l ++ m) = wireRun q m := by
  induction l generalizing p with
  | nil => simp only [wireRun, Option.some.injEq] at h; subst h; rfl
  | cons e l ih =>
    simp only [wireRun, List.cons_append] at h ⊢
    cases hn : wireNext p e with
    | none => simp [hn] at h
    | some r => simp only [hn] at h ⊢; exact ih h

end Sys2Proof.Safety
end

