-- ==== Sys2Proof/Tests/Slice0.lean ====
section
/-! SUPPORT. The model's own tests: a word of each operation, operands the checks refuse, vectors of 95_test_vectors, and a
witness for the hypotheses of each statement. -/

namespace Sys2Proof.Tests

open Sys2Proof Sys2Proof.Machine Sys2Proof.Safety

/-! ## Decoding: the codes of 30_encoding R61 to R64, written out -/

theorem test_decode_isidle (p : Ports) : decode { code := .host 0b00#2, ports := p } = .ok .isidle := rfl
theorem test_decode_init (p : Ports) : decode { code := .host 0b01#2, ports := p } = .ok (.init p.div p.src) := rfl
theorem test_decode_submit (p : Ports) : decode { code := .host 0b10#2, ports := p } = .ok (.submit p.ctrl p.ptr p.len p.rpt p.wmask) := rfl
theorem test_decode_irqIdle (p : Ports) : decode { code := .seq 0b00000000#8, ports := p } = .ok .irqIdle := rfl
theorem test_decode_irqStart (p : Ports) : decode { code := .seq 0b00000010#8, ports := p } = .ok .irqStart := rfl
theorem test_decode_irqPrepack (p : Ports) : decode { code := .seq 0b00000100#8, ports := p } = .ok .irqPrepack := rfl
theorem test_decode_irqRxtx (p : Ports) : decode { code := .seq 0b00000110#8, ports := p } = .ok .irqRxtx := rfl
theorem test_decode_irqPrepstop (p : Ports) : decode { code := .seq 0b00001000#8, ports := p } = .ok .irqPrepstop := rfl
theorem test_decode_irqStop (p : Ports) : decode { code := .seq 0b00001010#8, ports := p } = .ok .irqStop := rfl
theorem test_decode_xferAddr (p : Ports) : decode { code := .phase 0b00000000#8, ports := p } = .ok .xferAddr := rfl
theorem test_decode_xferCtrl (p : Ports) : decode { code := .phase 0b00000010#8, ports := p } = .ok .xferCtrl := rfl
theorem test_decode_xferPayload (p : Ports) : decode { code := .phase 0b00000100#8, ports := p } = .ok .xferPayload := rfl
theorem test_decode_loadShiftRegister (p : Ports) : decode { code := .prim 0b0000#4, ports := p } = .ok (.loadShiftRegister p.b) := rfl
theorem test_decode_readShiftRegister (p : Ports) : decode { code := .prim 0b0001#4, ports := p } = .ok .readShiftRegister := rfl
theorem test_decode_shiftBits (p : Ports) : decode { code := .prim 0b0010#4, ports := p } = .ok (.shiftBits p.n) := rfl
theorem test_decode_setOutputEnable (p : Ports) : decode { code := .prim 0b0011#4, ports := p } = .ok (.setOutputEnable p.en) := rfl
theorem test_decode_assertStartLatch (p : Ports) : decode { code := .prim 0b0100#4, ports := p } = .ok .assertStartLatch := rfl
theorem test_decode_raiseInterruptFlag (p : Ports) : decode { code := .prim 0b0101#4, ports := p } = .ok .raiseInterruptFlag := rfl
theorem test_decode_clearInterruptFlag (p : Ports) : decode { code := .prim 0b0110#4, ports := p } = .ok .clearInterruptFlag := rfl
theorem test_decode_configurePeripheral (p : Ports) : decode { code := .prim 0b0111#4, ports := p } = .ok (.configurePeripheral p.div p.src) := rfl
theorem test_decode_disableInterrupts (p : Ports) : decode { code := .prim 0b1000#4, ports := p } = .ok .disableInterrupts := rfl
theorem test_decode_enableInterrupts (p : Ports) : decode { code := .prim 0b1001#4, ports := p } = .ok .enableInterrupts := rfl
theorem test_decode_shiftTx8 (p : Ports) : decode { code := .agent 0b10001#5, ports := p } = .ok .shiftTx8 := rfl
theorem test_decode_shiftRx1 (p : Ports) : decode { code := .agent 0b00010#5, ports := p } = .ok .shiftRx1 := rfl
theorem test_decode_shiftTx1 (p : Ports) : decode { code := .agent 0b00011#5, ports := p } = .ok .shiftTx1 := rfl
theorem test_decode_prepareTransfer (p : Ports) : decode { code := .call .prepareTransfer, ports := p } = .ok .prepareTransfer := rfl
theorem test_decode_prepareStop (p : Ports) : decode { code := .call .prepareStop, ports := p } = .ok .prepareStop := rfl

/-! ## Decoding a table word, and running it as the first operation (log 13) -/

theorem test_table_word_submit : decodeTableWord 2 0b10 = some (.submit 0#8 0#_ 0#_ false 0#_) := rfl
theorem test_table_word_irqStop : decodeTableWord 8 0x0A = some .irqStop := rfl
theorem test_table_word_prim9 : decodeTableWord 4 0x9 = some .enableInterrupts := rfl
theorem test_table_word_shiftTx8 : decodeTableWord 8 0x11 = some .shiftTx8 := rfl
theorem test_table_word_reserved : decodeTableWord 8 0x20 = none := rfl
theorem test_table_word_runs : ∃ t, step (State.reset.withFetchWord 8 0x04) = .next t := ⟨_, rfl⟩
theorem test_table_word_unknown_faults : step (State.reset.withFetchWord 8 0x20) = .fault .badStateCode := rfl
/-- A number that its one format reserves is met there, under R72's name. -/
theorem test_table_word_reserved_in_its_format :
    decodeTableWord 4 0xA = none ∧ step (State.reset.withFetchWord 4 0xA) = .refused .reservedPrimitive ∧
    decodeTableWord 2 0b11 = none ∧ step (State.reset.withFetchWord 2 0b11) = .refused .reservedHostCommand ∧
    step (State.reset.withFetchWord 5 0x10) = .refused .receiveNotSupported := ⟨rfl, rfl, rfl, rfl, rfl⟩

/-! ## Operands the checks refuse (30_encoding R66, R67; 20_memory R43) -/

theorem test_wf_control_byte : Instr.wellFormed (.submit 0x80#8 0#_ 0#_ false 0#_) = false := rfl
theorem test_wf_shift_count : Instr.wellFormed (.shiftBits 2) = false := rfl
/-- The last address and one more byte, in sequence mode. -/
theorem test_wf_payload_range (len : Len) (h : 2 ≤ len.toNat) :
    Instr.wellFormed (.submit 0x40#8 (BitVec.allOnes _) len false 0#_) = false := by
  have a := Nat.one_le_two_pow (n := Config.addrW)
  have w : payloadWraps (BitVec.allOnes Config.addrW) len false = true := by
    unfold payloadWraps
    rw [BitVec.toNat_allOnes]
    simp only [Bool.not_false, Bool.true_and, Bool.and_eq_true, decide_eq_true_eq]
    omega
  simp [Instr.wellFormed, w]
theorem test_wf_legal : Instr.wellFormed (.submit 0x40#8 (BitVec.allOnes _) 1#_ true 0#_) = true := rfl

/-- V17, the range check at width 16. -/
theorem test_range_v17 :
    payloadWraps 0xFFFF#16 1#16 false = false ∧ payloadWraps 0xFFFE#16 2#16 false = false ∧
    payloadWraps 0xFFFF#16 2#16 false = true ∧ payloadWraps 0x0001#16 0xFFFF#16 false = false ∧
    payloadWraps 0x0002#16 0xFFFF#16 false = true ∧ payloadWraps 0xFFFF#16 200#16 true = false ∧
    payloadWraps 0xFFFF#16 0#16 false = false := by decide

/-! ## The arithmetic of 41_sequencer_steps R102, at width 16 -/

/-- V31. -/
theorem test_address_byte_v31 :
    addrByteOf 0x00#7 = 0x00#8 ∧ addrByteOf 0x01#7 = 0x02#8 ∧ addrByteOf 0x3C#7 = 0x78#8 ∧
    addrByteOf 0x3D#7 = 0x7A#8 ∧ addrByteOf 0x40#7 = 0x80#8 ∧ addrByteOf 0x7F#7 = 0xFE#8 := by decide
/-- V33, the cursor. -/
theorem test_cursor_v33 :
    nextCursor 0x0200#16 false = 0x0201#16 ∧ nextCursor 0x0200#16 true = 0x0200#16 ∧
    nextCursor 0xFFFF#16 false = 0x0000#16 ∧ nextCursor 0xFFFF#16 true = 0xFFFF#16 := by decide
/-- V29, `SLEEPCOND & ~WMASK`. -/
theorem test_wake_v29 :
    clearedConditions 0x0010#16 0x0010#16 = 0x0000#16 ∧ clearedConditions 0x0030#16 0x0010#16 = 0x0020#16 ∧
    clearedConditions 0x0010#16 0x0020#16 = 0x0010#16 ∧ clearedConditions 0x0F0F#16 0x00F0#16 = 0x0F0F#16 := by decide

/-! ## One step of each operation (95_test_vectors, V13 to V38) -/

theorem len_one : (1#Config.lenW) ≠ 0#_ := by rw [len_ne_zero]; simp [Config.lenW]
theorem len_one_toNat : (1#Config.lenW).toNat = 1 := by simp [Config.lenW]

/-- The vectors' common start: configured, interrupt pending, no shift in flight; `TSTATE` as given. -/
def ready (c : BitVec 8) : State := { State.reset with tstate := c, cfg := true, gie := true, ifg := true }

/-- The next state's answer to a question; no for a stop. -/
def after (r : Result) (q : State → Bool) : Bool :=
  match r with
  | .next t => q t
  | _ => false

/-- The refusal a result is, if it is one. -/
def refusal (r : Result) : Option Refusal :=
  match r with
  | .refused e => some e
  | _ => none

/-- V19. -/
theorem test_isidle : after (exec .isidle State.reset) (fun t => t.idleOut) = true := rfl
theorem test_isidle_busy : after (exec .isidle (ready 0x06#8)) (fun t => !t.idleOut) = true := rfl
/-- V13. -/
theorem test_init :
    after (exec (.init 0#_ 0#_) State.reset) (fun t => t.gie && t.cfg && !t.ifg && t.tstate == 0x00#8) = true := rfl
/-- V14. -/
theorem test_init_twice : refusal (exec (.init 0#_ 0#_) (ready 0x00#8)) = some .initCalledTwice := rfl
/-- R82's worked example: the state, the phase and the flag. -/
theorem test_submit :
    after (exec (.submit 0x40#8 0#_ 4#_ true 0#_) (ready 0x00#8))
      (fun t => t.tstate == 0x02#8 && t.phase == 0x00#8 && t.ifg && t.ctrl == 0x40#8 && t.rpt) = true := rfl
/-- V15, V16. -/
theorem test_submit_refused :
    refusal (exec (.submit 0x00#8 0#_ 1#_ false 0#_) State.reset) = some .submitBeforeInit ∧
    refusal (exec (.submit 0x41#8 0#_ 1#_ false 0#_) (ready 0x00#8)) = some .reservedControlByte := ⟨rfl, rfl⟩
/-- V21. -/
theorem test_irqIdle : exec .irqIdle (ready 0x00#8) = .next { ready 0x00#8 with ifg := false } := rfl
/-- V22. -/
theorem test_irqStart :
    after (exec .irqStart { ready 0x02#8 with len := 1#_ })
      (fun t => t.w == [.start] && !t.ge && t.oe && t.phase == 0x02#8 && t.cnt == 8 && t.tstate == 0x04#8) = true := by
  rw [exec, execIrqStart, nextTransfer_of_len (by exact len_one)]
  rfl
/-- V23, and V12's second row: `LEN = 0` under either setting of `ZERO_LEN_CHECK`. -/
theorem test_irqStart_zero_length :
    after (exec .irqStart (ready 0x02#8))
      (fun t => t.w == [.start] && t.oe && t.sr == 0x00#8 && t.cnt == 1 && t.tstate == 0x0A#8 && t.phase == 0x00#8)
        = true ∧
    after (exec .irqStart { ready 0x02#8 with zeroLenCheck := .payloadPhaseOnly })
      (fun t => t.w == [.start] && t.cnt == 8 && t.tstate == 0x04#8 && t.phase == 0x02#8) = true := by
  constructor <;> decide
/-- V24. -/
theorem test_irqPrepack :
    after (exec .irqPrepack { ready 0x04#8 with oe := true, sr := 0x5A#8 })
      (fun t => !t.oe && t.cnt == 1 && t.tstate == 0x06#8 && t.sr == 0x5A#8 && !t.ifg) = true := rfl
/-- V25, the NACK rows: only bit 0 decides. -/
theorem test_irqRxtx_nack :
    after (exec .irqRxtx { ready 0x06#8 with sr := 0x01#8 }) (fun t => t.tstate == 0x0A#8 && t.sr == 0x00#8) = true ∧
    after (exec .irqRxtx { ready 0x06#8 with sr := 0xFF#8 }) (fun t => t.tstate == 0x0A#8 && t.cnt == 1) = true :=
  ⟨rfl, rfl⟩
/-- V26, the `SendControl` row, with every bit of `SR` but bit 0 set. -/
theorem test_irqRxtx_ack :
    after (exec .irqRxtx { ready 0x06#8 with sr := 0xFE#8, phase := 0x02#8, ctrl := 0x40#8, len := 1#_ })
      (fun t => t.sr == 0x40#8 && t.phase == 0x04#8 && t.cnt == 8 && t.tstate == 0x04#8) = true := by
  show after (nextTransfer (takeInterrupt _)) _ = true
  rw [nextTransfer_of_len (by exact len_one)]
  rfl
/-- V28. -/
theorem test_irqPrepstop :
    after (exec .irqPrepstop (ready 0x08#8))
      (fun t => t.oe && t.sr == 0x00#8 && t.cnt == 1 && t.tstate == 0x0A#8 && !t.ifg) = true := rfl
/-- V29, what happens always. -/
theorem test_irqStop :
    after (exec .irqStop { ready 0x0A#8 with oe := true })
      (fun t => !t.oe && t.tstate == 0x00#8 && t.cnt == 0 && !t.ifg) = true := by
  simp [after, exec, execIrqStop, ready, State.reset, StateCode.idle]
/-- V32. -/
theorem test_xferCtrl :
    after (exec .xferCtrl { ready 0x06#8 with ctrl := 0x40#8 }) (fun t => t.sr == 0x40#8 && t.phase == 0x04#8) = true :=
  rfl
theorem test_xferAddr :
    after (exec .xferAddr (ready 0x02#8)) (fun t => !t.sr[0] && t.phase == 0x02#8) = true := by
  have bit0 : ∀ d : BitVec 7, (d ++ 0#1)[0] = false := by decide
  simp [bit0, after, exec, execXferAddr, loadAddress, loadSR, andThen, ready, State.reset, addrByte, addrByteOf, PhaseCode.sendControl]
/-- V33: the byte is read before the cursor moves; repeat mode leaves the cursor alone. -/
theorem test_xferPayload :
    after (exec .xferPayload { ready 0x06#8 with mem := Memory.write [] (0#Config.addrW).toNat 0x12#8, rpt := true })
      (fun t => t.sr == 0x12#8) = true := by
  simp [after, exec, execXferPayload, loadPayload, readPayload, plainMemory, loadSR, andThen, ready, State.reset,
    Memory.read_write_same]
theorem test_xferPayload_device :
    refusal (exec .xferPayload { ready 0x06#8 with notPlain := [(0#Config.addrW).toNat] })
      = some .payloadNotPlainMemory := by
  simp [refusal, exec, execXferPayload, loadPayload, readPayload, plainMemory, ready, State.reset]

/-! V34, the primitives. -/

theorem test_loadShiftRegister : after (exec (.loadShiftRegister 0x78#8) (ready 0x00#8)) (fun t => t.sr == 0x78#8) = true :=
  rfl
theorem test_loadShiftRegister_refused :
    refusal (exec (.loadShiftRegister 0x78#8) { ready 0x00#8 with cnt := 8 }) = some .loadDuringShift := rfl
theorem test_readShiftRegister :
    after (exec .readShiftRegister { ready 0x00#8 with sr := 0x01#8 }) (fun t => t.srOut == 0x01#8 && t.sr == 0x01#8)
      = true := rfl
theorem test_shiftBits :
    after (exec (.shiftBits 8) (ready 0x00#8)) (fun t => t.cnt == 8 && t.ifg) = true ∧
    after (exec (.shiftBits 1) (ready 0x00#8)) (fun t => t.cnt == 1) = true := ⟨rfl, rfl⟩
theorem test_shiftBits_refused :
    refusal (exec (.shiftBits 0) State.reset) = some .badShiftCount ∧
    refusal (exec (.shiftBits 7) State.reset) = some .badShiftCount ∧
    refusal (exec (.shiftBits 9) State.reset) = some .badShiftCount := ⟨rfl, rfl, rfl⟩
theorem test_setOutputEnable : after (exec (.setOutputEnable true) State.reset) (fun t => t.oe) = true := rfl
theorem test_assertStartLatch :
    after (exec .assertStartLatch State.reset) (fun t => t.w == [.start] && !t.ge) = true := rfl
theorem test_raiseInterruptFlag : after (exec .raiseInterruptFlag State.reset) (fun t => t.ifg) = true := rfl
theorem test_clearInterruptFlag : after (exec .clearInterruptFlag (ready 0x00#8)) (fun t => !t.ifg) = true := rfl
theorem test_configurePeripheral :
    after (exec (.configurePeripheral 0#_ 0#_) { State.reset with cnt := 8, oe := true, ge := true })
      (fun t => t.cnt == 0 && !t.oe && !t.ge && t.cfg && !t.gie) = true := rfl
theorem test_disableInterrupts : after (exec .disableInterrupts (ready 0x00#8)) (fun t => !t.gie) = true := rfl
theorem test_enableInterrupts : after (exec .enableInterrupts State.reset) (fun t => t.gie) = true := rfl

/-- V35. -/
theorem test_shiftTx8 :
    after (exec .shiftTx8 { ready 0x04#8 with cnt := 8, oe := true, ifg := false, sr := 0x78#8 })
      (fun t => t.w == [.byte 0x78#8] && t.cnt == 0 && t.ifg && t.nackslot == 0) = true := rfl
/-- V36, a NACK fixed in advance for slot 0, and an ACK. -/
theorem test_shiftRx1 :
    after (exec .shiftRx1 { ready 0x06#8 with cnt := 1, ifg := false, answers := [true] })
      (fun t => t.w == [.ackbit true] && t.cnt == 0 && t.ifg && t.nackslot == 1) = true ∧
    after (exec .shiftRx1 { ready 0x06#8 with cnt := 1, ifg := false, answers := [true, false], nackslot := 1 })
      (fun t => t.w == [.ackbit false] && t.nackslot == 2) = true := ⟨rfl, rfl⟩
/-- V36, bit 0 of `SR` is the answer, whatever the other bits become. -/
theorem test_shiftRx1_bit : ∀ h : BitVec 7, nackBit (ackRegister h true) = true ∧ nackBit (ackRegister h false) = false := by
  decide
/-- V37. -/
theorem test_shiftTx1 :
    after (exec .shiftTx1 { ready 0x0A#8 with cnt := 1, oe := true, ifg := false })
      (fun t => t.w == [] && t.cnt == 0 && t.ifg && t.nackslot == 0) = true := rfl
theorem test_prepareTransfer :
    after (exec .prepareTransfer { ready 0x02#8 with len := 1#_ })
      (fun t => t.oe && t.phase == 0x02#8 && t.cnt == 8 && t.tstate == 0x04#8) = true := by
  rw [exec, execPrepareTransfer, nextTransfer_of_len (by exact len_one)]
  rfl
theorem test_prepareStop :
    after (exec .prepareStop (ready 0x06#8)) (fun t => t.oe && t.sr == 0x00#8 && t.cnt == 1 && t.tstate == 0x0A#8)
      = true := rfl
/-- V38. -/
theorem test_shift_not_admitted :
    step { ready 0x04#8 with cnt := 8, sched := [.peripheral] } = .refused .receiveNotSupported ∧
    step { ready 0x04#8 with cnt := 7, sched := [.peripheral] } = .refused .badShiftCount ∧
    step { ready 0x04#8 with cnt := 17, sched := [.peripheral] } = .refused .badShiftCount := ⟨rfl, rfl, rfl⟩
/-- V43. -/
theorem test_inject :
    after (step { ready 0x00#8 with ifg := false, injects := 1, sched := [.environment] }) (fun t => t.ifg) = true ∧
    step { ready 0x06#8 with injects := 1, sched := [.environment] } = .refused .injectedInterruptInFlight := ⟨rfl, rfl⟩
/-- V40, the expansion. -/
theorem test_sendCommand2 :
    (sendCommand2 0x81#8 0x7F#8).length = 4 ∧
    (sendCommand2 0x81#8 0x7F#8).head? = some (.memWrite Config.clTmp 0x81#8) := ⟨rfl, rfl⟩

/-! ## Witnesses: a state and operands that meet the hypotheses of each statement, clause by clause -/

theorem wake_one : (1#Config.wakeW) ≠ 0#_ := by
  intro h
  have := congrArg BitVec.toNat h
  simp [Config.wakeW] at this

theorem witness_OperationsAndCodesAgreeBothWays : decode { code := .host 0b00#2, ports := .zero } = .ok .isidle := rfl

theorem witness_ReservedCodesAreRejectedByName :
    0xA ≤ (0xA#4).toNat ∧ 0xA ≤ (0xF#4).toNat ∧
    (∀ c ∈ [0x01#8, 0x0B#8, 0x0C#8, 0xFF#8],
      c ≠ 0x00#8 ∧ c ≠ 0x02#8 ∧ c ≠ 0x04#8 ∧ c ≠ 0x06#8 ∧ c ≠ 0x08#8 ∧ c ≠ 0x0A#8) ∧
    (∀ c ∈ [0x01#8, 0x05#8, 0x06#8, 0xFF#8], c ≠ 0x00#8 ∧ c ≠ 0x02#8 ∧ c ≠ 0x04#8) := by decide

theorem witness_NoCodeFitsTwoRows :
    (Code.prim 0x9#4).format ≠ .CALL ∧ Instr.enableInterrupts.row.fits (.prim 0x9#4) = true := by decide

/-- A configured, idle machine whose next step is this agent's. -/
def idleFor (a : Agent) : State := { ready 0x00#8 with ifg := false, sched := [a] }

theorem witness_StepRunsTheHostCommand :
    let s := { idleFor .host with program := [.command 0b00#2 .zero] }
    moves .host s ∧ s.sleepcond = 0#_ ∧ s.program = .command 0b00#2 .zero :: [] ∧
    decode { code := .host 0b00#2, ports := .zero } = .ok .isidle ∧ holds .isidle (passTurn s) = false :=
  ⟨⟨rfl, rfl⟩, rfl, rfl, rfl, rfl⟩

theorem witness_StepRunsTheDispatchEntry :
    let s := { ready 0x02#8 with sched := [.sequencer] }
    moves .sequencer s ∧ s.ifg = true ∧ s.gie = true ∧ s.cfg = true ∧
    decode { code := .seq s.tstate, ports := .zero } = .ok .irqStart := ⟨⟨rfl, rfl⟩, rfl, rfl, rfl, rfl⟩

/-- One shift for each of the five outcomes. -/
theorem witness_StepRunsTheShift :
    ∀ x ∈ [(8, true), (1, false), (1, true), (8, false), (2, true)],
      let s := { ready 0x04#8 with cnt := x.1, oe := x.2, sched := [.peripheral] }
      moves .peripheral s ∧ s.cfg = true ∧ s.cnt ≠ 0 := by
  intro x hx
  simp only [List.mem_cons, List.not_mem_nil, or_false] at hx
  rcases hx with rfl | rfl | rfl | rfl | rfl <;> exact ⟨⟨rfl, rfl⟩, rfl, by decide⟩

theorem witness_StepRunsTheDirectOperation :
    let s := { State.reset with direct := some { code := .prim 0x9#4, ports := .zero } }
    s.direct = some { code := .prim 0x9#4, ports := .zero } ∧
    decode { code := .prim 0x9#4, ports := .zero } = .ok .enableInterrupts := ⟨rfl, rfl⟩

theorem witness_MaskedSequencerTakesNoStep :
    (moves .sequencer (idleFor .sequencer) ∧ (idleFor .sequencer).ifg = false) ∧
    (∃ s, moves .sequencer s ∧ s.ifg = true ∧ s.gie = false) ∧
    (∃ s, moves .sequencer s ∧ s.ifg = true ∧ s.gie = true ∧ s.cfg = false) :=
  ⟨⟨⟨rfl, rfl⟩, rfl⟩, ⟨{ ready 0x02#8 with gie := false, sched := [.sequencer] }, ⟨rfl, rfl⟩, rfl, rfl⟩,
    ⟨{ ready 0x02#8 with cfg := false, sched := [.sequencer] }, ⟨rfl, rfl⟩, rfl, rfl, rfl⟩⟩

theorem witness_UncommandedPeripheralTakesNoStep :
    (∃ s, moves .peripheral s ∧ s.cfg = false ∧ s.cnt ≠ 0) ∧ (∃ s, moves .peripheral s ∧ s.cfg = true ∧ s.cnt = 0) :=
  ⟨⟨{ State.reset with cnt := 8, sched := [.peripheral] }, ⟨rfl, rfl⟩, rfl, by decide⟩,
    ⟨idleFor .peripheral, ⟨rfl, rfl⟩, rfl, rfl⟩⟩

theorem witness_SleepingHostTakesNoStep : ∃ s, moves .host s ∧ s.sleepcond ≠ 0#_ :=
  ⟨{ idleFor .host with sleepcond := 1#_ }, ⟨rfl, rfl⟩, wake_one⟩

theorem witness_BadCodesStopTheMachine :
    (∀ c ∈ [0x01#8, 0x0B#8, 0x0C#8, 0xFF#8],
      let s := { ready c with sched := [.sequencer] }
      moves .sequencer s ∧ s.ifg = true ∧ s.gie = true ∧ s.cfg = true ∧
      s.tstate ∉ [0x00#8, 0x02#8, 0x04#8, 0x06#8, 0x08#8, 0x0A#8]) ∧
    (∃ s : State, ¬ zeroLengthStops s ∧ s.phase ∉ [0x00#8, 0x02#8, 0x04#8] ∧ s.sr[0] = false) ∧
    (∃ s, moves .host s ∧ s.sleepcond = 0#_ ∧ s.program = [.command 0b11#2 .zero]) ∧
    (∃ s : State, s.direct = some { code := .prim 0xA#4, ports := .zero } ∧ 0xA ≤ (0xA#4).toNat) ∧
    (∃ s : State, s.direct = some { code := .phase 0x06#8, ports := .zero } ∧ 0x06#8 ∉ [0x00#8, 0x02#8, 0x04#8]) := by
  refine ⟨?_, ⟨{ ready 0x06#8 with len := 1#_, phase := 0x06#8 }, fun h => len_one h.1, by decide, rfl⟩,
    ⟨{ idleFor .host with program := [.command 0b11#2 .zero] }, ⟨rfl, rfl⟩, rfl, rfl⟩,
    ⟨{ State.reset with direct := some { code := .prim 0xA#4, ports := .zero } }, rfl, by decide⟩,
    ⟨{ State.reset with direct := some { code := .phase 0x06#8, ports := .zero } }, rfl, by decide⟩⟩
  intro c hc
  refine ⟨⟨rfl, rfl⟩, rfl, rfl, rfl, ?_⟩
  revert c
  decide

theorem witness_InitConfiguresThePeripheralOnce : State.reset.cfg = false ∧ (ready 0x00#8).cfg = true := ⟨rfl, rfl⟩

/-- The three ways a payload range is accepted: the last address alone, repeat mode at the last address, and no byte. -/
theorem witness_SubmitRecordsTheTransaction :
    (idleFor .host).cfg = true ∧ (idleFor .host).tstate = 0x00#8 ∧
    (BitVec.allOnes Config.addrW).toNat + (1#Config.lenW).toNat - 1 < 2 ^ Config.addrW ∧
    (0x00#8 = 0x00#8 ∨ 0x00#8 = 0x40#8) ∧ (0x40#8 = 0x00#8 ∨ 0x40#8 = 0x40#8) ∧ (0#Config.lenW).toNat = 0 :=
  ⟨rfl, rfl, by rw [len_one_toNat]; exact (BitVec.allOnes Config.addrW).isLt, .inl rfl, .inr rfl, by simp⟩

theorem witness_SubmitOpensThePayloadRange :
    (idleFor .host).tstate = 0x00#8 ∧
    (∃ t, execSubmit 0x00#8 0#_ 0#_ false 0#_ (idleFor .host) = .next t) ∧
    (∃ t, execSubmit 0x00#8 (BitVec.allOnes _) 1#_ true 0#_ (idleFor .host) = .next t) ∧
    (∃ t, execSubmit 0x00#8 (BitVec.allOnes _) 1#_ false 0#_ (idleFor .host) = .next t) := by
  refine ⟨rfl, ⟨_, execSubmit_eq_next.2 ⟨submitRefusal_eq_none.2 ⟨rfl, rfl, ?_⟩, rfl⟩⟩, ⟨_, rfl⟩,
    ⟨_, execSubmit_eq_next.2 ⟨submitRefusal_eq_none.2 ⟨rfl, rfl, ?_⟩, rfl⟩⟩⟩
  · simp [payloadWraps]
  · have a := Nat.one_le_two_pow (n := Config.addrW)
    unfold payloadWraps
    rw [len_one_toNat, BitVec.toNat_allOnes]
    simp

/-- Each of the three refusals happens; the third needs a length of at least 2, which a `LEN_W` of 1 does not have. -/
theorem witness_SubmitIsRefusedExactlyWhen :
    State.reset.cfg = false ∧
    ((ready 0x00#8).cfg = true ∧ 0x80#8 ≠ 0x00#8 ∧ 0x80#8 ≠ 0x40#8) ∧
    (2 ≤ Config.lenW → 1 ≤ (BitVec.allOnes Config.lenW).toNat ∧
      2 ^ Config.addrW ≤ (BitVec.allOnes Config.addrW).toNat + (BitVec.allOnes Config.lenW).toNat - 1) := by
  refine ⟨rfl, ⟨rfl, by decide, by decide⟩, fun h => ?_⟩
  have a := Nat.one_le_two_pow (n := Config.addrW)
  have l : 2 ^ 2 ≤ 2 ^ Config.lenW := Nat.pow_le_pow_right (by decide) h
  rw [BitVec.toNat_allOnes, BitVec.toNat_allOnes]
  constructor <;> omega

theorem witness_BusySubmitHolds :
    ∀ c ∈ [0x02#8, 0x04#8, 0x06#8, 0x08#8, 0x0A#8],
      let p : Ports := { Ports.zero with ctrl := 0x40#8, rpt := true }
      let s := { ready c with sched := [.host], program := [.command 0b10#2 p] }
      moves .host s ∧ s.sleepcond = 0#_ ∧ s.program = .command 0b10#2 p :: [] ∧ s.cfg = true ∧ p.ctrl = 0x40#8 ∧
      p.rpt = true ∧ s.tstate ≠ 0x00#8 := by
  intro c hc
  refine ⟨⟨rfl, rfl⟩, rfl, rfl, rfl, rfl, rfl, ?_⟩
  revert c
  decide

theorem witness_IrqStartSendsStartAndTheAddress :
    (∃ s : State, s.cnt = 0 ∧ s.len ≠ 0#_ ∧ s.phase = 0x00#8) ∧
    (∃ s : State, s.cnt = 0 ∧ s.len = 0#_ ∧ s.zeroLenCheck = .payloadPhaseOnly ∧ s.phase = 0x00#8) ∧
    ((ready 0x02#8).cnt = 0 ∧ (ready 0x02#8).len = 0#_ ∧ (ready 0x02#8).zeroLenCheck = .everyCall) :=
  ⟨⟨{ ready 0x02#8 with len := 1#_ }, rfl, len_one, rfl⟩,
    ⟨{ ready 0x02#8 with zeroLenCheck := .payloadPhaseOnly }, rfl, rfl, rfl, rfl⟩, rfl, rfl, rfl⟩

theorem witness_IrqRxtxOnNackPreparesTheStop :
    ∀ v ∈ [0x01#8, 0xFF#8], ∃ s : State, s.sr = v ∧ s.sr[0] = true ∧ s.cnt = 0 := by
  intro v hv
  refine ⟨{ ready 0x06#8 with sr := v }, rfl, ?_, rfl⟩
  revert v
  decide

/-- The length stops under either setting, and lets the two first phases through with `LEN = 0` under the second. -/
theorem witness_IrqRxtxOnAckLoadsTheNextByte :
    (∃ s : State, s.sr[0] = false ∧ s.cnt = 0 ∧ zeroLengthStops s ∧ s.zeroLenCheck = .everyCall ∧ s.phase = 0x02#8) ∧
    (∃ s : State, s.sr[0] = false ∧ s.cnt = 0 ∧ zeroLengthStops s ∧ s.zeroLenCheck = .payloadPhaseOnly) ∧
    (∀ c ∈ [0x00#8, 0x02#8],
      (∃ s : State, s.sr[0] = false ∧ s.cnt = 0 ∧ ¬ zeroLengthStops s ∧ s.len ≠ 0#_ ∧ s.phase = c) ∧
      (∃ s : State, s.sr[0] = false ∧ s.cnt = 0 ∧ ¬ zeroLengthStops s ∧ s.len = 0#_ ∧ s.phase = c)) ∧
    (∃ s : State, s.sr[0] = false ∧ s.cnt = 0 ∧ s.len ≠ 0#_ ∧ s.phase = 0x04#8 ∧ s.ptr.toNat ∉ s.notPlain) ∧
    (∃ s : State, s.sr[0] = false ∧ s.len ≠ 0#_ ∧ s.phase = 0x04#8 ∧ s.ptr.toNat ∈ s.notPlain) := by
  have ack : (ready 0x06#8).sr[0] = false := rfl
  refine ⟨⟨{ ready 0x06#8 with sr := 0xFE#8, phase := 0x02#8 }, rfl, rfl, ⟨rfl, .inl rfl⟩, rfl, rfl⟩,
    ⟨{ ready 0x06#8 with phase := 0x04#8, zeroLenCheck := .payloadPhaseOnly }, rfl, rfl, ⟨rfl, .inr rfl⟩, rfl⟩,
    fun c hc => ⟨⟨{ ready 0x06#8 with len := 1#_, phase := c }, ack, rfl, fun h => len_one h.1, len_one, rfl⟩,
      ⟨{ ready 0x06#8 with phase := c, zeroLenCheck := .payloadPhaseOnly }, ack, rfl, ?_, rfl, rfl⟩⟩,
    ⟨{ ready 0x06#8 with len := 1#_, phase := 0x04#8 }, rfl, rfl, len_one, rfl, List.not_mem_nil⟩,
    ⟨{ ready 0x06#8 with len := 1#_, phase := 0x04#8, notPlain := [(0#Config.addrW).toNat] }, rfl, len_one, rfl,
      List.mem_cons_self⟩⟩
  rintro ⟨_, h | h⟩
  · exact absurd h (by simp)
  · revert c; decide

theorem witness_IrqPrepstopPreparesTheStop : (ready 0x08#8).cnt = 0 := rfl

theorem witness_PrepareTransferLoadsByPhase :
    (∃ s : State, s.len ≠ 0#_ ∧ s.phase = 0x04#8 ∧ s.ptr.toNat ∈ s.notPlain) ∧
    (∃ s : State, s.cnt = 0 ∧ zeroLengthStops s) ∧
    (∀ c ∈ [0x00#8, 0x02#8, 0x04#8],
      let s := { ready 0x06#8 with len := 1#_, phase := c }
      s.cnt = 0 ∧ s.len ≠ 0#_ ∧ ¬ zeroLengthStops s ∧ s.phase = c ∧ s.ptr.toNat ∉ s.notPlain) :=
  ⟨⟨{ ready 0x06#8 with len := 1#_, phase := 0x04#8, notPlain := [(0#Config.addrW).toNat] }, len_one, rfl,
      List.mem_cons_self⟩,
    ⟨ready 0x06#8, rfl, rfl, .inl rfl⟩,
    fun _ _ => ⟨rfl, len_one, fun h => len_one h.1, rfl, List.not_mem_nil⟩⟩

theorem witness_ZeroLengthSettingsAgreeOnPayloads :
    ({ ready 0x02#8 with len := 1#_ } : State).len ≠ 0#_ ∧
    ((ready 0x02#8).cnt = 0 ∧ (ready 0x02#8).len = 0#_ ∧ (ready 0x02#8).phase = 0x00#8) ∧
    (∃ t, step { ready 0x0A#8 with zeroLenCheck := .payloadPhaseOnly, sched := [.sequencer] } = .next t) :=
  ⟨len_one, ⟨rfl, rfl, rfl⟩, _, rfl⟩

theorem witness_XferAddrLoadsTheAddressByte : (ready 0x02#8).cnt = 0 := rfl
theorem witness_XferCtrlLoadsTheControlByte : (ready 0x06#8).cnt = 0 := rfl

theorem witness_XferPayloadLoadsTheByteAtTheCursor :
    ((ready 0x06#8).cnt = 0 ∧ (ready 0x06#8).ptr.toNat ∉ (ready 0x06#8).notPlain) ∧
    (∃ s : State, s.ptr.toNat ∈ s.notPlain) :=
  ⟨⟨rfl, List.not_mem_nil⟩, ⟨{ ready 0x06#8 with notPlain := [(0#Config.addrW).toNat] }, List.mem_cons_self⟩⟩

theorem witness_PrepareStopCommandsOneLowBit : (ready 0x06#8).cnt = 0 := rfl

theorem witness_LoadingIsRefusedDuringAShift :
    (ready 0x06#8).cnt = 0 ∧
    (∃ s : State, s.cnt ≠ 0 ∧ zeroLengthStops s) ∧
    (∀ c ∈ [0x00#8, 0x02#8, 0x04#8],
      let s := { ready 0x06#8 with cnt := 1, len := 1#_, phase := c }
      s.cnt ≠ 0 ∧ ¬ zeroLengthStops s ∧ s.phase = c ∧ s.ptr.toNat ∉ s.notPlain) ∧
    (∃ s : State, s.cnt ≠ 0 ∧ s.sr[0] = true) :=
  ⟨rfl, ⟨{ ready 0x06#8 with cnt := 1 }, by decide, rfl, .inl rfl⟩,
    fun _ _ => ⟨Nat.one_ne_zero, fun h => len_one h.1, rfl, List.not_mem_nil⟩,
    ⟨{ ready 0x06#8 with cnt := 8, sr := 0x01#8 }, by decide, rfl⟩⟩

/-- A next state, and an element the operation does not write. -/
theorem witness_OperationsWriteOnlyWhatTheirRulesName :
    (∃ t, exec .irqStop (ready 0x0A#8) = .next t) ∧ Element.len ∉ statesWritten .irqStop := ⟨⟨_, rfl⟩, by decide⟩

theorem witness_NoOperationWritesMemory : ∃ t, exec .xferPayload (ready 0x06#8) = .next t := ⟨_, rfl⟩

/-- Both clauses: an operation that moves nothing, and one that loads a payload byte. -/
theorem witness_CursorAndLengthMoveTogether :
    (∃ t, exec .irqIdle (ready 0x00#8) = .next t) ∧ (∃ t, exec .xferPayload (ready 0x06#8) = .next t) ∧
    (∃ t, exec .irqRxtx { ready 0x06#8 with len := 1#_, phase := 0x04#8 } = .next t) := by
  exact ⟨⟨_, rfl⟩, ⟨_, rfl⟩, ⟨_, (nextTransfer_of_len (by exact len_one)).trans rfl⟩⟩

theorem witness_LogsGrowByWhatTheRulesName :
    (∃ t, exec .irqStop { ready 0x0A#8 with wmask := 1#_ } = .next t) ∧
    ({ ready 0x0A#8 with wmask := 1#_ } : State).wmask ≠ 0#_ ∧
    (∃ t, exec .shiftRx1 { ready 0x06#8 with cnt := 1 } = .next t) := ⟨⟨_, rfl⟩, wake_one, ⟨_, rfl⟩⟩

/-- A step that answers next, from each state of the table. -/
theorem witness_TransactionStateFollowsTheTable :
    (∀ c ∈ [0x00#8, 0x04#8, 0x08#8, 0x0A#8], ∃ t, step { ready c with sched := [.sequencer] } = .next t) ∧
    (∃ t, step { ready 0x02#8 with sched := [.sequencer], len := 1#_ } = .next t) ∧
    (∃ t, step { ready 0x02#8 with sched := [.sequencer] } = .next t) ∧
    (∃ t, step { ready 0x06#8 with sched := [.sequencer], sr := 0x01#8 } = .next t) ∧
    (∃ t, step { ready 0x06#8 with sched := [.sequencer], len := 1#_, phase := 0x02#8 } = .next t) ∧
    (∃ t, step { idleFor .host with program := [submitAct 0x00#8 0#_ 1#_ true 0#_] } = .next t ∧ t.tstate = 0x02#8) := by
  refine ⟨?_, ?_, ?_, ⟨_, rfl⟩, ?_, ⟨_, rfl, rfl⟩⟩
  · intro c hc
    simp only [List.mem_cons, List.not_mem_nil, or_false] at hc
    rcases hc with rfl | rfl | rfl | rfl <;> exact ⟨_, rfl⟩
  · exact ⟨_, (nextTransfer_of_len (by exact len_one)).trans rfl⟩
  · exact ⟨_, rfl⟩
  · exact ⟨_, (nextTransfer_of_len (by exact len_one)).trans rfl⟩

/-- A step that answers next, for each way `PHASE` can move: not at all, back with a `SUBMIT`, and on twice. -/
theorem witness_PhaseOnlyAdvancesWithinATransaction :
    (∃ t, step (idleFor .sequencer) = .next t) ∧
    (∃ t, step { idleFor .host with phase := 0x04#8, program := [submitAct 0x00#8 0#_ 1#_ true 0#_] } = .next t ∧
      t.phase = 0x00#8) ∧
    (∃ t, step { ready 0x02#8 with sched := [.sequencer], len := 1#_ } = .next t) ∧
    (∃ t, step { ready 0x06#8 with sched := [.sequencer], len := 1#_, phase := 0x02#8 } = .next t) :=
  ⟨⟨_, rfl⟩, ⟨_, rfl, rfl⟩, witness_TransactionStateFollowsTheTable.2.1,
    witness_TransactionStateFollowsTheTable.2.2.2.2.1⟩

theorem witness_HostLeavesABusyEngineAlone :
    ∃ s t : State, moves .host s ∧ s.cfg = true ∧ s.tstate ≠ 0x00#8 ∧ step s = .next t :=
  ⟨{ ready 0x06#8 with sched := [.host], program := [.command 0b00#2 .zero] }, _, ⟨rfl, rfl⟩, rfl, by decide, rfl⟩

/-- A write at the only address of the range, refused; and one in `Idle`, one below the range, one just above it. -/
theorem witness_HostWriteRespectsThePayload :
    (∃ s : State, moves .host s ∧ s.sleepcond = 0#_ ∧ s.program = [.memWrite 0#_ 0x12#8] ∧ s.tstate ≠ 0x00#8 ∧
      s.rangeBase ≤ (0#Config.addrW).toNat ∧ (0#Config.addrW).toNat < s.rangeBase + s.rangeCount) ∧
    (idleFor .host).tstate = 0x00#8 ∧
    (∃ s : State, (0#Config.addrW).toNat < s.rangeBase) ∧
    (∃ s : State, s.rangeBase + s.rangeCount ≤ (0#Config.addrW).toNat) :=
  ⟨⟨{ ready 0x06#8 with sched := [.host], program := [.memWrite 0#_ 0x12#8], rangeBase := 0, rangeCount := 1 },
      ⟨rfl, rfl⟩, rfl, rfl, by decide, by simp, by simp⟩, rfl,
    ⟨{ ready 0x06#8 with rangeBase := 1, rangeCount := 1 }, by simp⟩,
    ⟨{ ready 0x06#8 with rangeBase := 0, rangeCount := 0 }, by simp⟩⟩

theorem witness_WaitIdleChecksThenSleeps :
    (∀ a ∈ [HostAct.waitIdle 1#_, .waitSleep 1#_, .sleep 1#_],
      ∃ s : State, moves .host s ∧ s.sleepcond = 0#_ ∧ s.program = [a] ∧ s.tstate = 0x00#8) ∧
    (∃ s : State, moves .host s ∧ s.sleepcond = 0#_ ∧ s.program = [.waitIdle 1#_] ∧ s.tstate ≠ 0x00#8) :=
  ⟨fun a _ => ⟨{ idleFor .host with program := [a] }, ⟨rfl, rfl⟩, rfl, rfl, rfl⟩,
    ⟨{ ready 0x06#8 with sched := [.host], program := [.waitIdle 1#_] }, ⟨rfl, rfl⟩, rfl, rfl, by decide⟩⟩

theorem witness_InjectionOnlyInIdle :
    ∀ c ∈ [(0x00#8, 0), (0x00#8, 8), (0x06#8, 0)],
      ∃ s : State, moves .environment s ∧ s.injects = 0 + 1 ∧ s.tstate = c.1 ∧ s.cnt = c.2 :=
  fun c _ => ⟨{ ready c.1 with cnt := c.2, injects := 1, sched := [.environment] }, ⟨rfl, rfl⟩, rfl, rfl, rfl⟩

theorem witness_HostAsleepInIdleIsNeverWoken :
    ∃ s t : State, AsleepForGood s ∧ step s = .next t :=
  ⟨{ ready 0x00#8 with sleepcond := 1#_, sched := [.sequencer] }, _, ⟨rfl, wake_one, rfl, rfl⟩, rfl⟩

theorem witness_CommandLayerSubmitsOneTransaction :
    ∀ prog : List HostAct, ∀ later : List Agent,
      ∃ s : State, s.direct = none ∧ s.sleepcond = 0#_ ∧ s.cfg = true ∧ s.tstate = 0x00#8 ∧ s.program = prog ∧
        s.sched = later :=
  fun prog later => ⟨{ ready 0x00#8 with program := prog, sched := later }, rfl, rfl, rfl, rfl, rfl, rfl⟩

/-- The buffer's last address is accepted by `sendData`. -/
theorem witness_CommandLayerSubmitsOneTransaction_range :
    (BitVec.allOnes Config.addrW).toNat + (1#Config.lenW).toNat - 1 < 2 ^ Config.addrW := by
  rw [len_one_toNat]; exact (BitVec.allOnes Config.addrW).isLt

/-- The control invariant holds with an interrupt pending in each state of a transaction, and in `Idle`. -/
theorem ready_inv (c : BitVec 8) (h : c ∈ [0x00#8, 0x02#8, 0x0A#8]) (a : List Agent) :
    ControlInv { ready c with sched := a } := by
  refine ⟨rfl, rfl, fun _ => rfl, fun h => absurd h (by simp [ready]), ?_⟩
  simp only [List.mem_cons, List.not_mem_nil, or_false] at h
  rcases h with rfl | rfl | rfl
  · exact .inl ⟨rfl, fun _ => rfl⟩
  · exact .inr (.inl ⟨rfl, ⟨rfl, rfl⟩, rfl⟩)
  · exact .inr (.inr (.inr (.inr ⟨rfl, .inr ⟨rfl, rfl⟩⟩)))

/-- The control invariant holds with an ACK slot just ended. -/
theorem ready_rxtx_inv (n : List Nat) (a : List Agent) :
    ControlInv { ready 0x06#8 with phase := 0x04#8, len := 1#_, notPlain := n, sched := a } :=
  ⟨rfl, rfl, fun _ => rfl, fun h => absurd h (by simp [ready]), .inr (.inr (.inr (.inl ⟨rfl, .inr rfl, .inr ⟨rfl, rfl⟩⟩)))⟩

theorem witness_StepsKeepTheControlInvariant :
    ∃ s t : State, ControlInv s ∧ step s = .next t :=
  ⟨_, _, ready_inv 0x0A#8 (by decide) [.sequencer], rfl⟩

/-- A step out of a transaction into a quiet `Idle`. -/
theorem witness_StepsKeepIdleQuiet :
    ∃ s t : State, ControlInv s ∧ QuietIdle s ∧ step s = .next t :=
  ⟨_, _, ready_inv 0x0A#8 (by decide) [.sequencer], ⟨rfl, fun _ h => absurd h (by decide)⟩, rfl⟩

/-- A trace in the middle of its second frame. -/
theorem witness_StepsKeepTheWireWellFormed :
    ∃ s t : State, ControlInv s ∧ WireInv s ∧ step s = .next t := by
  refine ⟨{ ready 0x0A#8 with w := [.start, .stop, .start], sched := [.sequencer] }, _, ?_, ⟨fun _ => rfl, .started, rfl, ?_⟩, rfl⟩
  · exact ⟨rfl, rfl, fun _ => rfl, fun h => absurd h (by decide), .inr (.inr (.inr (.inr ⟨rfl, .inr ⟨rfl, rfl⟩⟩)))⟩
  · simp [placeFits, ready, State.reset, StateCode.idle, StateCode.start, StateCode.prepareAckNack, StateCode.handleRxTx]

theorem witness_StepsKeepMemoryCanonical :
    ∃ s t : State, Memory.wf s.mem = true ∧ step s = .next t :=
  ⟨{ idleFor .host with mem := [(3, 0x11#8), (7, 0x00#8)], program := [.memWrite 0#_ 0x12#8] }, _, rfl, rfl⟩

/-- Both outcomes: a step taken, and a cursor that points at what is not plain memory. -/
theorem witness_EngineStopsOnlyOnBadPayloadMemory :
    (∃ s : State, ControlInv s ∧ turn s = .sequencer) ∧ (∃ s : State, ControlInv s ∧ turn s = .peripheral) ∧
    (∃ s : State, ControlInv s ∧ turn s = .sequencer ∧ s.ptr.toNat ∈ s.notPlain ∧ s.phase = 0x04#8 ∧ s.len ≠ 0#_) :=
  ⟨⟨_, ready_inv 0x02#8 (by decide) [.sequencer], rfl⟩, ⟨_, ready_inv 0x02#8 (by decide) [.peripheral], rfl⟩,
    ⟨_, ready_rxtx_inv [(0#Config.addrW).toNat] [.sequencer], rfl, List.mem_cons_self, rfl, len_one⟩⟩

/-- A step of the engine and a step of another agent in a running transaction; a transaction just submitted. -/
theorem witness_EachEngineStepSpendsWork :
    (∃ s t : State, ControlInv s ∧ s.tstate ≠ 0x00#8 ∧ step s = .next t ∧ turn s = .sequencer ∧ enabled .sequencer s = true) ∧
    (∃ s t : State, ControlInv s ∧ s.tstate ≠ 0x00#8 ∧ step s = .next t ∧ turn s = .host) ∧
    ((ready 0x02#8).tstate = 0x02#8 ∧ (ready 0x02#8).phase = 0x00#8) :=
  ⟨⟨_, _, ready_inv 0x0A#8 (by decide) [.sequencer], by decide, rfl, rfl, rfl⟩,
    ⟨_, _, ready_inv 0x0A#8 (by decide) [.host], by decide, rfl, rfl⟩, rfl, rfl⟩

/-- An idle machine whose host sleeps, with this program left. -/
def asleep (prog : List HostAct) : State := { idleFor .host with sleepcond := 1#_, program := prog }

theorem asleep_not_running (prog : List HostAct) : hostRunning (asleep prog) = false := by
  simpa [hostRunning, asleep] using wake_one

/-- Both ways a run can be over: ended, and deadlocked, with a finished program and with an unfinished one; and a
configured state of the invariants. -/
theorem witness_FinishedRunsStayFinished :
    ((idleFor .host).direct = none ∧ (idleFor .host).injects = 0 ∧ runOver (idleFor .host) = true ∧
      finished (idleFor .host) = true) ∧
    (∀ prog : List HostAct, (asleep prog).direct = none ∧ (asleep prog).injects = 0 ∧ runOver (asleep prog) = true ∧
      deadlocked (asleep prog) = true) ∧
    (∃ s : State, ControlInv s ∧ QuietIdle s ∧ s.cfg = true) := by
  refine ⟨⟨rfl, rfl, by decide, by decide⟩, fun prog => ⟨rfl, rfl, ?_, ?_⟩,
    ⟨_, ready_inv 0x02#8 (by decide) [], ⟨rfl, fun _ h => absurd h (by decide)⟩, rfl⟩⟩
  · rw [runOver, asleep_not_running, Bool.not_false, Bool.or_true]; rfl
  · rw [deadlocked, asleep_not_running]; rfl

/-- The state a last `IRQ_STOP` leaves, with `n` free values drawn since. -/
def rested (n : Nat) : State :=
  { ready 0x00#8 with ifg := false, sr := Config.freeByte 0, draws := n + 1, w := [.stop] }

/-- An endless run: the last step of a transaction, and then nothing more to do. -/
def lastStepThenRest : Nat → State
  | 0 => { ready 0x0A#8 with sched := [.sequencer] }
  | n + 1 => rested n

theorem lastStepThenRest_run : Run lastStepThenRest := by
  intro n
  cases n with
  | zero =>
    show step { ready 0x0A#8 with sched := [.sequencer] } = _
    rw [step_of_turn rfl]
    show execIrqStop (ready 0x0A#8) = _
    simp [execIrqStop, wakeHost, lastStepThenRest, rested, ready, State.reset, takeInterrupt, clearFlag, appendWire,
      drawSR, setOE, enterState, StateCode.idle]
  | succ n =>
    show step (rested n) = .next (rested (n + 1))
    rw [step_of_turn rfl]
    cases turn (rested n) <;> rfl

theorem witness_FairRunsReturnToIdle :
    Run lastStepThenRest ∧ ControlInv (lastStepThenRest 0) ∧ WeaklyFair .sequencer lastStepThenRest ∧
    WeaklyFair .peripheral lastStepThenRest := by
  refine ⟨lastStepThenRest_run, ready_inv 0x0A#8 (by decide) [.sequencer], ?_, ?_⟩
  · intro n h
    exact absurd (h (n + 1) (by omega)) (by simp [enabled, lastStepThenRest, rested, sequencerEnabled])
  · intro n h
    exact absurd (h (n + 1) (by omega)) (by simp [enabled, lastStepThenRest, rested, peripheralEnabled, ready, State.reset])

/-- `n` turns of sequencer and peripheral, turn about, with a host turn before each. -/
def withHost : Nat → Agent → List Agent
  | 0, _ => []
  | n + 1, a => .host :: a :: withHost n (counterpart a)

/-- A transaction of one byte whose three slots all answer ACK, with a host that waits for it and its turns between; and
an empty one under each setting of `ZERO_LEN_CHECK`. -/
theorem witness_TransactionSendsExactlyItsFrame :
    (∃ s : State, s.direct = none ∧ s.tstate = 0x02#8 ∧ s.phase = 0x00#8 ∧ s.cnt = 0 ∧ s.ifg = true ∧ s.gie = true ∧
      s.cfg = true ∧ (∀ a ∈ payloadAddresses s.ptr s.rpt s.len.toNat, a ∉ s.notPlain) ∧
      (∀ act ∈ s.program, admissible s act) ∧ s.injects = 0 ∧ 3 = frameSlots s (frameBytes s) s.nackslot ∧
      turnsTaken .sequencer (withHost 14 .sequencer) = (2 * 3 + 1) + (2 * 3 + 1) ∧
      s.sched = withHost 14 .sequencer ++ .sequencer :: []) ∧
    (∃ s : State, s.tstate = 0x02#8 ∧ s.zeroLenCheck = .everyCall ∧ s.len = 0#_ ∧
      0 = frameSlots s (frameBytes s) s.nackslot) ∧
    (∃ s : State, s.tstate = 0x02#8 ∧ s.zeroLenCheck = .payloadPhaseOnly ∧ s.len = 0#_ ∧
      2 = frameSlots s (frameBytes s) s.nackslot) := by
  refine ⟨⟨{ ready 0x02#8 with
        len := 1#_, answers := [false, false, false], program := [.waitIdle 1#_]
        sched := withHost 14 .sequencer ++ [.sequencer] },
      rfl, rfl, rfl, rfl, rfl, rfl, rfl, fun _ _ => List.not_mem_nil, ?_, rfl, ?_, by decide, rfl⟩,
    ⟨ready 0x02#8, rfl, rfl, rfl, ?_⟩,
    ⟨{ ready 0x02#8 with answers := [false, false], zeroLenCheck := .payloadPhaseOnly }, rfl, rfl, rfl, ?_⟩⟩
  · intro act h
    obtain rfl := List.mem_singleton.1 h
    trivial
  · unfold frameBytes
    show 3 = frameSlots _ (if (1#Config.lenW).toNat = 0 ∧ _ then [] else _ :: _ :: List.map _ (payloadAddresses _ _ (1#Config.lenW).toNat)) 0
    rw [len_one_toNat]
    rfl
  · simp [frameBytes, frameSlots, ready, State.reset]
  · simp [frameBytes, frameSlots, ready, State.reset, payloadAddresses, slaveAnswer]

end Sys2Proof.Tests
end

section
/-! PROOFS. The switch `ZERO_LEN_CHECK` (00_scope R6, 41_sequencer_steps R97 with its case (c)): what `prepareTransfer`
does under either setting, and that no operation, turn or step changes the setting. -/

namespace Sys2Proof.Machine

variable {s t : State}

/-! ## `prepareTransfer` under either setting -/

theorem transferUnder_of_lengthStops {z : ZeroLenCheck} (h : lengthStops z s = true) :
    transferUnder z s = stopPreparation s := if_pos h

theorem transferUnder_of_not_lengthStops {z : ZeroLenCheck} (h : lengthStops z s = false) :
    transferUnder z s = byteTransfer s := by
  simp [transferUnder, h]

/-- For a length that is not 0 the setting makes no difference. -/
theorem transferUnder_of_len (z : ZeroLenCheck) (h : s.len ≠ 0#_) : transferUnder z s = byteTransfer s :=
  transferUnder_of_not_lengthStops (lengthStops_of_len h)

/-- Only the phase `SendPayload` consults the length under `payload_phase_only`. -/
theorem lengthStops_payloadPhaseOnly_of_phase (h : s.phase ≠ PhaseCode.sendPayload) :
    lengthStops .payloadPhaseOnly s = false := by
  simp [lengthStops, h]

/-- In the phase `SendAddress` the byte's half of `prepareTransfer` sends the address byte (41_sequencer_steps R98). -/
theorem byteTransfer_of_sendAddress (hc : s.cnt = 0) (hp : s.phase = PhaseCode.sendAddress) :
    byteTransfer s = .next { s with oe := true, sr := addrByte, phase := PhaseCode.sendControl, cnt := 8,
                                    tstate := StateCode.prepareAckNack } :=
  byteTransfer_eq_next.2 ⟨_, loadByPhase_eq_next.2 (.inl ⟨hp, loadAddress_eq_next.2 ⟨hc, rfl⟩⟩), rfl⟩

/-! ## No step changes the setting -/

theorem stopPreparation_keeps_zeroLenCheck (h : stopPreparation s = .next t) : t.zeroLenCheck = s.zeroLenCheck := by
  obtain ⟨_, rfl⟩ := stopPreparation_eq_next.1 h
  rfl

theorem nextTransfer_keeps_zeroLenCheck (h : nextTransfer s = .next t) : t.zeroLenCheck = s.zeroLenCheck := by
  obtain ⟨_, ⟨_, rfl⟩ | ⟨_, _, rfl⟩ | ⟨_, _, rfl⟩ | ⟨_, _, _, rfl⟩⟩ := nextTransfer_cases h <;> rfl

/-- No operation changes the setting: each either answers a state given by its fields, or is one of the shared routines
whose outcomes the lemmas above name. -/
theorem exec_keeps_zeroLenCheck {i : Instr} (h : exec i s = .next t) : t.zeroLenCheck = s.zeroLenCheck := by
  cases i with
  | init div src =>
    obtain ⟨_, rfl⟩ := execInit_eq_next.1 h
    rfl
  | submit ctrl ptr len rpt wmask =>
    obtain ⟨_, ht⟩ := execSubmit_eq_next.1 h
    split at ht <;> subst ht <;> rfl
  | irqStart => exact nextTransfer_keeps_zeroLenCheck (s := pulseStartLatch (takeInterrupt s)) h
  | irqRxtx =>
    obtain ⟨_, _, rfl⟩ | ⟨_, h'⟩ := execIrqRxtx_cases h
    · rfl
    · exact nextTransfer_keeps_zeroLenCheck (s := takeInterrupt s) h'
  | prepareTransfer => exact nextTransfer_keeps_zeroLenCheck h
  | irqPrepstop => exact stopPreparation_keeps_zeroLenCheck (s := takeInterrupt s) h
  | prepareStop => exact stopPreparation_keeps_zeroLenCheck h
  | xferAddr =>
    obtain ⟨_, rfl⟩ := loadAddress_eq_next.1 h
    rfl
  | xferCtrl =>
    obtain ⟨_, rfl⟩ := loadControl_eq_next.1 h
    rfl
  | xferPayload =>
    obtain ⟨_, _, rfl⟩ := loadPayload_eq_next.1 h
    rfl
  | loadShiftRegister b =>
    obtain ⟨_, rfl⟩ := loadSR_eq_next.1 h
    rfl
  | shiftBits n =>
    obtain ⟨_, rfl⟩ := commandShift_eq_next.1 h
    rfl
  | irqStop =>
    obtain rfl := next_eq_next.1 h
    simp
  | isidle | irqIdle | irqPrepack | readShiftRegister | setOutputEnable | assertStartLatch | raiseInterruptFlag
  | clearInterruptFlag | configurePeripheral | disableInterrupts | enableInterrupts | shiftTx8 | shiftRx1 | shiftTx1 =>
    obtain rfl := next_eq_next.1 h
    rfl

theorem hostTurn_keeps_zeroLenCheck (h : hostTurn s = .next t) : t.zeroLenCheck = s.zeroLenCheck := by
  obtain ⟨_, _, _, _, rfl, _⟩ | ⟨_, _, _, _, _, rfl⟩ | ⟨_, _, _, _, _, _, _, _, _, _, rfl⟩ := hostTurn_effects h <;> rfl

theorem sequencerTurn_keeps_zeroLenCheck (h : sequencerTurn s = .next t) : t.zeroLenCheck = s.zeroLenCheck := by
  obtain ⟨_, _, _, hi⟩ | ⟨_, rfl⟩ := sequencerTurn_cases h
  · exact exec_keeps_zeroLenCheck hi
  · rfl

theorem peripheralTurn_keeps_zeroLenCheck (h : peripheralTurn s = .next t) : t.zeroLenCheck = s.zeroLenCheck := by
  obtain ⟨_, ⟨_, _, h'⟩ | ⟨_, _, h'⟩ | ⟨_, _, h'⟩⟩ | ⟨_, rfl⟩ := peripheralTurn_cases h
  · exact exec_keeps_zeroLenCheck (i := .shiftTx8) h'
  · exact exec_keeps_zeroLenCheck (i := .shiftRx1) h'
  · exact exec_keeps_zeroLenCheck (i := .shiftTx1) h'
  · rfl

theorem environmentTurn_keeps_zeroLenCheck (h : environmentTurn s = .next t) : t.zeroLenCheck = s.zeroLenCheck := by
  obtain ⟨_, rfl⟩ | ⟨_, _, _, _, rfl⟩ := environmentTurn_cases h <;> rfl

theorem agentTurn_keeps_zeroLenCheck {a : Agent} (h : agentTurn a s = .next t) : t.zeroLenCheck = s.zeroLenCheck := by
  cases a with
  | host => exact hostTurn_keeps_zeroLenCheck h
  | sequencer => exact sequencerTurn_keeps_zeroLenCheck h
  | peripheral => exact peripheralTurn_keeps_zeroLenCheck h
  | environment => exact environmentTurn_keeps_zeroLenCheck h

/-- An operation presented by itself that answers a next state was decoded and run. -/
theorem runDirect_eq_next {x : OpWord} :
    runDirect x s = .next t ↔ ∃ i, decode x = .ok i ∧ exec i { s with direct := none } = .next t := by
  unfold runDirect
  cases decode x <;> simp

theorem step_keeps_zeroLenCheck (h : step s = .next t) : t.zeroLenCheck = s.zeroLenCheck := by
  unfold step oneStep at h
  split at h
  · obtain ⟨_, _, hi⟩ := runDirect_eq_next.1 h
    exact exec_keeps_zeroLenCheck (s := { s with direct := none }) hi
  · exact (agentTurn_keeps_zeroLenCheck h).trans (passTurn_zeroLenCheck s)

/-- Settles O28: the length test is the only place the setting is read, it fails under both for `LEN != 0`, and in the
phase `SendAddress` with `LEN = 0` it holds under `every_call` only. -/
theorem zeroLengthSettingsAgreeOnPayloads : Obligations.ZeroLengthSettingsAgreeOnPayloads := by
  refine ⟨fun s hl => ?alike, fun s hc hl hp => ⟨?everyCall, ?payloadPhaseOnly⟩, fun s => rfl,
    fun s t => step_keeps_zeroLenCheck⟩
  case alike => rw [transferUnder_of_len _ hl, transferUnder_of_len _ hl]
  case everyCall =>
    rw [transferUnder_of_lengthStops (lengthStops_iff.2 ⟨hl, .inl rfl⟩)]
    exact stopPreparation_eq_next.2 ⟨hc, rfl⟩
  case payloadPhaseOnly =>
    have notPayload : s.phase ≠ PhaseCode.sendPayload := by rw [hp]; decide
    rw [transferUnder_of_not_lengthStops (lengthStops_payloadPhaseOnly_of_phase notPayload)]
    exact byteTransfer_of_sendAddress hc hp

end Sys2Proof.Machine
end

section
/-! PROOFS. What one step can do, said once: `TurnOutcome` has one constructor for each outcome of an agent's turn, and
every statement about all steps is a case analysis on it. After it, the control invariant state by state. -/

namespace Sys2Proof.Safety

open Sys2Proof.Machine

variable {s t : State}

/-- What one agent's turn can leave, one constructor for each outcome. -/
inductive TurnOutcome (s : State) : Agent → State → Prop
  /-- The sequencer has no step (60_exceptions R142). -/
  | sequencerRests (off : sequencerEnabled s = false) : TurnOutcome s .sequencer s
  /-- The peripheral has no step (42_peripheral_primitives R120). -/
  | peripheralRests (off : peripheralEnabled s = false) : TurnOutcome s .peripheral s
  /-- The environment has nothing to inject. -/
  | environmentRests (spent : s.injects = 0) : TurnOutcome s .environment s
  /-- A host step that writes none of the block's registers. -/
  | outside (mem : Memory) (cond : WakeMask) (idle : Bool) (program : List HostAct) :
    TurnOutcome s .host { s with mem := mem, sleepcond := cond, idleOut := idle, program := program }
  /-- `INIT` (40_host_operations R81). -/
  | init (div : ClkDiv) (src : ClkSrc) (program : List HostAct) (unconfigured : s.cfg = false) :
    TurnOutcome s .host { enableIrq (clearFlag (configure div src (disableIrq s))) with program := program }
  /-- `SUBMIT` in `Idle` (40_host_operations R82). -/
  | submit (ctrl : Byte) (ptr : Addr) (len : Len) (rpt : Bool) (wmask : WakeMask) (program : List HostAct)
      (configured : s.cfg = true) (atIdle : s.tstate = StateCode.idle) (legal : legalControlByte ctrl = true) :
    TurnOutcome s .host { recordTransaction ctrl ptr len rpt wmask s with program := program }
  /-- `IRQ_IDLE` (41_sequencer_steps R91). -/
  | irqIdle (on : sequencerEnabled s = true) (code : s.tstate = StateCode.idle) :
    TurnOutcome s .sequencer { s with ifg := false }
  /-- `IRQ_START` (41_sequencer_steps R92). -/
  | irqStart {t : State} (on : sequencerEnabled s = true) (code : s.tstate = StateCode.start)
      (transfer : nextTransfer { s with ifg := false, ge := false, w := s.w ++ [.start] } = .next t) :
    TurnOutcome s .sequencer t
  /-- `IRQ_PREPACK` (41_sequencer_steps R93). -/
  | irqPrepack (on : sequencerEnabled s = true) (code : s.tstate = StateCode.prepareAckNack) :
    TurnOutcome s .sequencer { s with ifg := false, oe := false, cnt := 1, tstate := StateCode.handleRxTx }
  /-- `IRQ_RXTX` on NACK (41_sequencer_steps R94). -/
  | irqRxtxNack (on : sequencerEnabled s = true) (code : s.tstate = StateCode.handleRxTx)
      (nack : nackBit s.sr = true) :
    TurnOutcome s .sequencer
      { s with ifg := false, oe := true, sr := 0x00#8, cnt := 1, tstate := StateCode.stop }
  /-- `IRQ_RXTX` on ACK (41_sequencer_steps R94). -/
  | irqRxtxAck {t : State} (on : sequencerEnabled s = true) (code : s.tstate = StateCode.handleRxTx)
      (ack : nackBit s.sr = false) (transfer : nextTransfer { s with ifg := false } = .next t) :
    TurnOutcome s .sequencer t
  /-- `IRQ_PREPSTOP` (41_sequencer_steps R95). -/
  | irqPrepstop (on : sequencerEnabled s = true) (code : s.tstate = StateCode.prepareStop) :
    TurnOutcome s .sequencer
      { s with ifg := false, oe := true, sr := 0x00#8, cnt := 1, tstate := StateCode.stop }
  /-- `IRQ_STOP`; `cond` and `log` are what its wake-up leaves (41_sequencer_steps R96). -/
  | irqStop (cond : WakeMask) (log : List WakeMask) (on : sequencerEnabled s = true)
      (code : s.tstate = StateCode.stop) :
    TurnOutcome s .sequencer
      { s with
        ifg := false, w := s.w ++ [.stop], sr := Config.freeByte s.draws, draws := s.draws + 1, oe := false
        tstate := StateCode.idle, sleepcond := cond, k := log }
  /-- `SHIFT_TX8` (42_peripheral_primitives R120). -/
  | shiftTx8 (on : peripheralEnabled s = true) (count : s.cnt = 8) (drive : s.oe = true) :
    TurnOutcome s .peripheral
      { s with
        w := s.w ++ [.byte s.sr], sr := Config.freeByte s.draws, draws := s.draws + 1, cnt := 0, ifg := true }
  /-- `SHIFT_RX1` (42_peripheral_primitives R120). -/
  | shiftRx1 (on : peripheralEnabled s = true) (count : s.cnt = 1) (drive : s.oe = false) :
    TurnOutcome s .peripheral
      { s with
        w := s.w ++ [.ackbit (slaveAnswer s s.nackslot)], nackslot := s.nackslot + 1
        sr := ackRegister (Config.freeSevenBits s.draws) (slaveAnswer s s.nackslot)
        draws := s.draws + 1, cnt := 0, ifg := true }
  /-- `SHIFT_TX1` (42_peripheral_primitives R120). -/
  | shiftTx1 (on : peripheralEnabled s = true) (count : s.cnt = 1) (drive : s.oe = true) :
    TurnOutcome s .peripheral
      { s with sr := Config.freeByte s.draws, draws := s.draws + 1, cnt := 0, ifg := true }
  /-- `INJECT` (60_exceptions R147). -/
  | inject (left : Nat) (more : s.injects = left + 1) (atIdle : s.tstate = StateCode.idle) (count : s.cnt = 0) :
    TurnOutcome s .environment { s with ifg := true, injects := left }

theorem wakeHost_eq : ∃ cond log, wakeHost s = { s with sleepcond := cond, k := log } := by
  unfold wakeHost
  split
  · exact ⟨_, _, rfl⟩
  · exact ⟨_, _, rfl⟩

theorem hostTurn_outcome (h : hostTurn s = .next t) : TurnOutcome s .host t := by
  obtain ⟨m, c, i, prog, rfl, _⟩ | ⟨hc, _, d, c, prog, rfl⟩ | ⟨hc, _, hi, c, p, l, r, m, prog, hl, rfl⟩ :=
    hostTurn_effects h
  · exact .outside m c i prog
  · exact .init d c prog hc
  · exact .submit c p l r m prog hc hi hl

theorem sequencerTurn_outcome (h : sequencerTurn s = .next t) : TurnOutcome s .sequencer t := by
  obtain ⟨off, rfl⟩ | ⟨on, ⟨hs, h⟩ | ⟨hs, h⟩ | ⟨hs, h⟩ | ⟨hs, h⟩ | ⟨hs, h⟩ | ⟨hs, h⟩⟩ := sequencerTurn_entries h
  · exact .sequencerRests off
  · obtain rfl := next_eq_next.1 h
    exact .irqIdle on hs
  · exact .irqStart on hs h
  · obtain rfl := next_eq_next.1 h
    exact .irqPrepack on hs
  · obtain ⟨nack, _, rfl⟩ | ⟨ack, h⟩ := execIrqRxtx_cases h
    · exact .irqRxtxNack on hs nack
    · exact .irqRxtxAck on hs ack h
  · obtain ⟨_, rfl⟩ := stopPreparation_eq_next.1 h
    exact .irqPrepstop on hs
  · obtain ⟨cond, log, hw⟩ := wakeHost_eq
    obtain rfl := (next_eq_next.1 h).trans hw
    exact .irqStop cond log on hs

theorem peripheralTurn_outcome (h : peripheralTurn s = .next t) : TurnOutcome s .peripheral t := by
  obtain ⟨on, ⟨hc, ho, h⟩ | ⟨hc, ho, h⟩ | ⟨hc, ho, h⟩⟩ | ⟨off, rfl⟩ := peripheralTurn_cases h
  · obtain rfl := next_eq_next.1 h
    exact .shiftTx8 on hc ho
  · obtain rfl := next_eq_next.1 h
    exact .shiftRx1 on hc ho
  · obtain rfl := next_eq_next.1 h
    exact .shiftTx1 on hc ho
  · exact .peripheralRests off

theorem environmentTurn_outcome (h : environmentTurn s = .next t) : TurnOutcome s .environment t := by
  obtain ⟨h0, rfl⟩ | ⟨n, hn, hs, hc, rfl⟩ := environmentTurn_cases h
  · exact .environmentRests h0
  · exact .inject n hn hs hc

/-- Taking the turn off the schedule touches the schedule and the counter of free values only. -/
theorem passTurn_eq (s : State) : ∃ sched draws, passTurn s = { s with sched := sched, draws := draws } := by
  unfold passTurn
  split
  · exact ⟨_, _, rfl⟩
  · exact ⟨_, _, rfl⟩

/-- A step with nothing presented by itself is an outcome of the turn of the agent that moves, once that turn is taken off
the schedule. -/
theorem step_outcome (hd : s.direct = none) (h : step s = .next t) :
    ∃ sched draws, TurnOutcome { s with sched := sched, draws := draws } (turn s) t := by
  obtain ⟨sched, draws, hpass⟩ := passTurn_eq s
  refine ⟨sched, draws, ?_⟩
  rw [← hpass]
  obtain ⟨ha, h⟩ | ⟨ha, h⟩ | ⟨ha, h⟩ | ⟨ha, h⟩ := step_cases hd h <;> rw [ha]
  · exact hostTurn_outcome h
  · exact sequencerTurn_outcome h
  · exact peripheralTurn_outcome h
  · exact environmentTurn_outcome h

/-! ## The control invariant, state by state (10_state R36) -/

theorem controlShape_of_idle (h : s.tstate = StateCode.idle) : controlShape s ↔ (s.cfg = true → s.cnt = 0) := by
  simp [controlShape, h, StateCode.idle, StateCode.start, StateCode.prepareAckNack, StateCode.handleRxTx,
    StateCode.stop]

theorem controlShape_of_start (h : s.tstate = StateCode.start) :
    controlShape s ↔ pending s ∧ s.phase = PhaseCode.sendAddress := by
  simp [controlShape, h, StateCode.idle, StateCode.start, StateCode.prepareAckNack, StateCode.handleRxTx,
    StateCode.stop]

theorem controlShape_of_prepareAckNack (h : s.tstate = StateCode.prepareAckNack) :
    controlShape s ↔ phaseLoaded s ∧ (shifting 8 true s ∨ pending s) := by
  simp [controlShape, h, StateCode.idle, StateCode.start, StateCode.prepareAckNack, StateCode.handleRxTx,
    StateCode.stop]

theorem controlShape_of_handleRxTx (h : s.tstate = StateCode.handleRxTx) :
    controlShape s ↔ phaseLoaded s ∧ (shifting 1 false s ∨ pending s) := by
  simp [controlShape, h, StateCode.idle, StateCode.start, StateCode.prepareAckNack, StateCode.handleRxTx,
    StateCode.stop]

theorem controlShape_of_stop (h : s.tstate = StateCode.stop) :
    controlShape s ↔ shifting 1 true s ∧ s.sr = 0x00#8 ∨ pending s := by
  simp [controlShape, h, StateCode.idle, StateCode.start, StateCode.prepareAckNack, StateCode.handleRxTx,
    StateCode.stop]

theorem ControlInv.tstate_ne_prepareStop (inv : ControlInv s) : s.tstate ≠ StateCode.prepareStop := by
  obtain ⟨h, _⟩ | ⟨h, _⟩ | ⟨h, _⟩ | ⟨h, _⟩ | ⟨h, _⟩ := inv.shape <;> rw [h] <;> decide

end Sys2Proof.Safety
end

section
/-! PROOFS. Every step keeps the control invariant of 10_state R36. -/

namespace Sys2Proof.Safety

open Sys2Proof.Machine

variable {s t : State}

/-- While a transaction runs, an interrupt is pending or a shift is in flight, and not both (10_state R36). -/
theorem ControlInv.pending_or_shifting (inv : ControlInv s) (busy : s.tstate ≠ StateCode.idle) :
    pending s ∨ (s.cnt ≠ 0 ∧ s.ifg = false) := by
  obtain ⟨code, _⟩ | ⟨_, h, _⟩ | ⟨_, _, ⟨hc, _, hf⟩ | h⟩ | ⟨_, _, ⟨hc, _, hf⟩ | h⟩ | ⟨_, ⟨⟨hc, _, hf⟩, _⟩ | h⟩ := inv.shape
  · exact absurd code busy
  · exact .inl h
  · exact .inr ⟨by omega, hf⟩
  · exact .inl h
  · exact .inr ⟨by omega, hf⟩
  · exact .inl h
  · exact .inr ⟨by omega, hf⟩
  · exact .inl h

/-- The sequencer runs with no shift in flight. -/
theorem ControlInv.cnt_of_sequencerEnabled (inv : ControlInv s) (on : sequencerEnabled s = true) : s.cnt = 0 := by
  obtain ⟨hf, _, hc⟩ := sequencerEnabled_iff.1 on
  by_cases code : s.tstate = StateCode.idle
  · exact (controlShape_of_idle code).1 inv.shape hc
  · obtain ⟨h, _⟩ | ⟨_, h⟩ := inv.pending_or_shifting code
    · exact h
    · exact absurd (hf.symm.trans h) (by decide)

/-- The engine is configured and its interrupts are enabled while a transaction runs. -/
theorem ControlInv.configured_of_busy (inv : ControlInv s) (busy : s.tstate ≠ StateCode.idle) :
    s.cfg = true ∧ s.gie = true := by
  have hc : s.cfg = true := by
    by_contra hc
    exact busy (inv.idleUntilConfigured (by simpa using hc))
  exact ⟨hc, inv.enabledOnceConfigured hc⟩

/-- Where the control state stands when a shift of one of the three forms begins. -/
theorem ControlInv.of_shift (inv : ControlInv s) (on : peripheralEnabled s = true) :
    s.ifg = false ∧
      ((s.tstate = StateCode.prepareAckNack ∧ phaseLoaded s ∧ s.cnt = 8 ∧ s.oe = true) ∨
        (s.tstate = StateCode.handleRxTx ∧ phaseLoaded s ∧ s.cnt = 1 ∧ s.oe = false) ∨
        (s.tstate = StateCode.stop ∧ s.cnt = 1 ∧ s.oe = true)) := by
  obtain ⟨hc, hn⟩ := peripheralEnabled_iff.1 on
  obtain ⟨_, h⟩ | ⟨_, ⟨h, _⟩, _⟩ | ⟨hs, hp, ⟨h, ho, hf⟩ | ⟨h, _⟩⟩ | ⟨hs, hp, ⟨h, ho, hf⟩ | ⟨h, _⟩⟩ |
    ⟨hs, ⟨⟨h, ho, hf⟩, _⟩ | ⟨h, _⟩⟩ := inv.shape
  · exact absurd (h hc) hn
  · exact absurd h hn
  · exact ⟨hf, .inl ⟨hs, hp, h, ho⟩⟩
  · exact absurd h hn
  · exact ⟨hf, .inr (.inl ⟨hs, hp, h, ho⟩)⟩
  · exact absurd h hn
  · exact ⟨hf, .inr (.inr ⟨hs, h, ho⟩)⟩
  · exact absurd h hn

theorem ControlInv.of_shiftTx8 (inv : ControlInv s) (on : peripheralEnabled s = true) (count : s.cnt = 8) :
    s.tstate = StateCode.prepareAckNack ∧ phaseLoaded s ∧ s.ifg = false := by
  obtain ⟨hf, ⟨hs, hp, _⟩ | ⟨_, _, h, _⟩ | ⟨_, h, _⟩⟩ := inv.of_shift on
  · exact ⟨hs, hp, hf⟩
  · omega
  · omega

theorem ControlInv.of_shiftRx1 (inv : ControlInv s) (on : peripheralEnabled s = true) (drive : s.oe = false) :
    s.tstate = StateCode.handleRxTx ∧ phaseLoaded s ∧ s.ifg = false := by
  obtain ⟨hf, ⟨_, _, _, h⟩ | ⟨hs, hp, _⟩ | ⟨_, _, h⟩⟩ := inv.of_shift on
  · simp [drive] at h
  · exact ⟨hs, hp, hf⟩
  · simp [drive] at h

theorem ControlInv.of_shiftTx1 (inv : ControlInv s) (on : peripheralEnabled s = true) (count : s.cnt = 1)
    (drive : s.oe = true) : s.tstate = StateCode.stop ∧ s.ifg = false := by
  obtain ⟨hf, ⟨_, _, h, _⟩ | ⟨_, _, _, h⟩ | ⟨hs, _⟩⟩ := inv.of_shift on
  · omega
  · simp [drive] at h
  · exact ⟨hs, hf⟩

/-- The control invariant reads neither the schedule nor the counter of free values. -/
theorem ControlInv.turnTaken (inv : ControlInv s) (sched : List Agent) (draws : Nat) :
    ControlInv { s with sched := sched, draws := draws } :=
  ⟨inv.nothingDirect, inv.latchOff, inv.enabledOnceConfigured, inv.idleUntilConfigured, inv.shape⟩

/-- `prepareTransfer` leaves a stop bit or a loaded byte in flight. -/
theorem controlInv_of_nextTransfer (h : nextTransfer s = .next t) (hd : s.direct = none) (hg : s.ge = false)
    (hc : s.cfg = true) (he : s.gie = true) (hf : s.ifg = false) : ControlInv t := by
  obtain ⟨_, ⟨_, rfl⟩ | ⟨_, _, rfl⟩ | ⟨_, _, rfl⟩ | ⟨_, hp, _, rfl⟩⟩ := nextTransfer_cases h <;>
    refine ⟨hd, hg, fun _ => he, fun h => absurd (hc.symm.trans h) (by decide), ?_⟩
  · exact (controlShape_of_stop rfl).2 (.inl ⟨⟨rfl, rfl, hf⟩, rfl⟩)
  · exact (controlShape_of_prepareAckNack rfl).2 ⟨.inl rfl, .inl ⟨rfl, rfl, hf⟩⟩
  · exact (controlShape_of_prepareAckNack rfl).2 ⟨.inr rfl, .inl ⟨rfl, rfl, hf⟩⟩
  · exact (controlShape_of_prepareAckNack rfl).2 ⟨.inr hp, .inl ⟨rfl, rfl, hf⟩⟩

/-- Every outcome of a turn keeps the control invariant. -/
theorem TurnOutcome.keeps_controlInv {a : Agent} (inv : ControlInv s) (o : TurnOutcome s a t) : ControlInv t := by
  have ⟨hd, hg, hgie, hidle, shape⟩ := inv
  cases o with
  | sequencerRests | peripheralRests | environmentRests => exact inv
  | outside => exact ⟨hd, hg, hgie, hidle, shape⟩
  | init div src program unconfigured =>
    exact ⟨hd, rfl, fun _ => rfl, fun _ => hidle unconfigured, .inl ⟨hidle unconfigured, fun _ => rfl⟩⟩
  | submit ctrl ptr len rpt wmask program configured atIdle =>
    have hcnt := (controlShape_of_idle atIdle).1 shape configured
    exact ⟨hd, hg, hgie, fun h => absurd (configured.symm.trans h) (by decide),
      (controlShape_of_start rfl).2 ⟨⟨hcnt, rfl⟩, rfl⟩⟩
  | inject left more atIdle count => exact ⟨hd, hg, hgie, hidle, .inl ⟨atIdle, fun _ => count⟩⟩
  | irqIdle on code => exact ⟨hd, hg, hgie, hidle, .inl ⟨code, (controlShape_of_idle code).1 shape⟩⟩
  | irqStart on code transfer =>
    obtain ⟨_, he, hc⟩ := sequencerEnabled_iff.1 on
    exact controlInv_of_nextTransfer transfer hd rfl hc he rfl
  | irqPrepack on code =>
    obtain ⟨_, _, hc⟩ := sequencerEnabled_iff.1 on
    obtain ⟨loaded, _⟩ := (controlShape_of_prepareAckNack code).1 shape
    exact ⟨hd, hg, hgie, fun h => absurd (hc.symm.trans h) (by decide),
      (controlShape_of_handleRxTx rfl).2 ⟨loaded, .inl ⟨rfl, rfl, rfl⟩⟩⟩
  | irqRxtxNack on code nack =>
    obtain ⟨_, _, hc⟩ := sequencerEnabled_iff.1 on
    exact ⟨hd, hg, hgie, fun h => absurd (hc.symm.trans h) (by decide),
      (controlShape_of_stop rfl).2 (.inl ⟨⟨rfl, rfl, rfl⟩, rfl⟩)⟩
  | irqRxtxAck on code ack transfer =>
    obtain ⟨_, he, hc⟩ := sequencerEnabled_iff.1 on
    exact controlInv_of_nextTransfer transfer hd hg hc he rfl
  | irqPrepstop on code => exact absurd code inv.tstate_ne_prepareStop
  | irqStop cond log on code =>
    exact ⟨hd, hg, hgie, fun _ => rfl, .inl ⟨rfl, fun _ => inv.cnt_of_sequencerEnabled on⟩⟩
  | shiftTx8 on count drive =>
    obtain ⟨code, loaded, _⟩ := inv.of_shiftTx8 on count
    exact ⟨hd, hg, hgie, hidle, Iff.mpr (controlShape_of_prepareAckNack code) ⟨loaded, .inr ⟨rfl, rfl⟩⟩⟩
  | shiftRx1 on count drive =>
    obtain ⟨code, loaded, _⟩ := inv.of_shiftRx1 on drive
    exact ⟨hd, hg, hgie, hidle, Iff.mpr (controlShape_of_handleRxTx code) ⟨loaded, .inr ⟨rfl, rfl⟩⟩⟩
  | shiftTx1 on count drive =>
    obtain ⟨code, _⟩ := inv.of_shiftTx1 on count drive
    exact ⟨hd, hg, hgie, hidle, Iff.mpr (controlShape_of_stop code) (.inr ⟨rfl, rfl⟩)⟩

/-- Settles O52: the control invariant survives taking the turn off the schedule, and then every outcome of the turn. -/
theorem stepsKeepTheControlInvariant : Obligations.StepsKeepTheControlInvariant := by
  intro s t inv h
  obtain ⟨sched, draws, o⟩ := step_outcome inv.nothingDirect h
  exact o.keeps_controlInv (inv.turnTaken sched draws)

end Sys2Proof.Safety
end

section
/-! PROOFS. Where `TSTATE` and `PHASE` can move, what a host step leaves alone, that `Idle` stays quiet, and where the
engine stops: each from the outcomes of a turn. -/

namespace Sys2Proof.Safety

open Sys2Proof.Machine

variable {s t : State}

/-! ## `TSTATE` and `PHASE` (10_state R18 and R19, 41_sequencer_steps R103) -/

/-- `prepareTransfer` goes to `Stop` where the length says so, and to `PrepareAckNack` otherwise. -/
theorem nextTransfer_tstate (h : nextTransfer s = .next t) :
    (zeroLengthStops s ∧ t.tstate = StateCode.stop) ∨
      (¬ zeroLengthStops s ∧ t.tstate = StateCode.prepareAckNack) := by
  obtain ⟨_, ⟨hl, rfl⟩ | ⟨hl, _, rfl⟩ | ⟨hl, _, rfl⟩ | ⟨hl, _, _, rfl⟩⟩ := nextTransfer_cases h
  · exact .inl ⟨lengthStops_iff_zeroLengthStops.1 hl, rfl⟩
  · exact .inr ⟨lengthStops_eq_false_iff.1 hl, rfl⟩
  · exact .inr ⟨lengthStops_eq_false_iff.1 hl, rfl⟩
  · exact .inr ⟨fun h => hl h.1, rfl⟩

theorem nextTransfer_phase (h : nextTransfer s = .next t) :
    t.phase = s.phase ∨ (s.phase = PhaseCode.sendAddress ∧ t.phase = PhaseCode.sendControl) ∨
      (s.phase = PhaseCode.sendControl ∧ t.phase = PhaseCode.sendPayload) := by
  obtain ⟨_, ⟨_, rfl⟩ | ⟨_, hp, rfl⟩ | ⟨_, hp, rfl⟩ | ⟨_, _, _, rfl⟩⟩ := nextTransfer_cases h
  · exact .inl rfl
  · exact .inr (.inl ⟨hp, rfl⟩)
  · exact .inr (.inr ⟨hp, rfl⟩)
  · exact .inl rfl

/-- Settles O42: only `SUBMIT` and the sequencer's entries write `TSTATE`, and `prepareTransfer` decides by the length. -/
theorem transactionStateFollowsTheTable : Obligations.TransactionStateFollowsTheTable := by
  intro s t hd h
  obtain ⟨sched, draws, o⟩ := step_outcome hd h
  generalize turn s = a at o
  cases o with
  | sequencerRests | peripheralRests | environmentRests | outside | init | inject | irqIdle | shiftTx8 | shiftRx1
  | shiftTx1 => exact .inl rfl
  | submit _ _ _ _ _ _ _ atIdle => exact .inr (.inl ⟨atIdle, rfl⟩)
  | irqStart _ code transfer =>
    obtain ⟨hl, ht⟩ | ⟨hl, ht⟩ := nextTransfer_tstate transfer
    · exact .inr (.inr (.inr (.inl ⟨code, hl, ht⟩)))
    · exact .inr (.inr (.inl ⟨code, hl, ht⟩))
  | irqPrepack _ code => exact .inr (.inr (.inr (.inr (.inl ⟨code, rfl⟩))))
  | irqRxtxNack _ code nack =>
    exact .inr (.inr (.inr (.inr (.inr (.inr (.inl ⟨code, .inl nack, rfl⟩))))))
  | irqRxtxAck _ code ack transfer =>
    obtain ⟨hl, ht⟩ | ⟨hl, ht⟩ := nextTransfer_tstate transfer
    · exact .inr (.inr (.inr (.inr (.inr (.inr (.inl ⟨code, .inr hl, ht⟩))))))
    · exact .inr (.inr (.inr (.inr (.inr (.inl ⟨code, ack, hl, ht⟩)))))
  | irqPrepstop _ code => exact .inr (.inr (.inr (.inr (.inr (.inr (.inr (.inl ⟨code, rfl⟩)))))))
  | irqStop _ _ _ code => exact .inr (.inr (.inr (.inr (.inr (.inr (.inr (.inr ⟨code, rfl⟩)))))))

/-- Settles O43: `SUBMIT` sets `PHASE` to `SendAddress`, `prepareTransfer` moves it on, and nothing else writes it. -/
theorem phaseOnlyAdvancesWithinATransaction : Obligations.PhaseOnlyAdvancesWithinATransaction := by
  intro s t hd h
  obtain ⟨sched, draws, o⟩ := step_outcome hd h
  generalize turn s = a at o
  cases o with
  | sequencerRests | peripheralRests | environmentRests | outside | init | inject | irqIdle | irqPrepack | irqRxtxNack
  | irqPrepstop | irqStop | shiftTx8 | shiftRx1 | shiftTx1 => exact .inl rfl
  | submit _ _ _ _ _ _ _ atIdle => exact .inr (.inl ⟨rfl, atIdle, rfl⟩)
  | irqStart _ _ transfer => exact (nextTransfer_phase transfer).imp_right .inr
  | irqRxtxAck _ _ _ transfer => exact (nextTransfer_phase transfer).imp_right .inr

/-! ## The host's steps -/

/-- Settles O44: on a configured, busy engine `INIT` and `SUBMIT` take no effect, and no other host step reaches the
block. -/
theorem hostLeavesABusyEngineAlone : Obligations.HostLeavesABusyEngineAlone := by
  intro s t ⟨hd, ha⟩ configured busy h
  obtain ⟨sched, draws, o⟩ := step_outcome hd h
  rw [ha] at o
  cases o with
  | outside => simp [Element.agree]
  | init _ _ _ unconfigured => exact absurd (configured.symm.trans unconfigured) (by decide)
  | submit _ _ _ _ _ _ _ atIdle => exact absurd atIdle busy

/-- Settles O12: a sleeping host has no step, so its turn is only taken off the schedule. -/
theorem sleepingHostTakesNoStep : Obligations.SleepingHostTakesNoStep := by
  intro s ⟨hd, ha⟩ asleep
  have notRunning : ¬ hostRunning (passTurn s) = true := by rwa [hostRunning_iff, passTurn_sleepcond]
  rw [step_of_turn hd, ha]
  exact if_neg notRunning

/-! ## The stop on NACK -/

/-- Settles O23: on NACK `IRQ_RXTX` is `prepareStop` with the flag cleared. -/
theorem irqRxtxOnNackPreparesTheStop : Obligations.IrqRxtxOnNackPreparesTheStop := by
  intro s nack hc
  have branch : exec .irqRxtx s = stopPreparation (takeInterrupt s) := if_pos nack
  rw [branch]
  exact stopPreparation_eq_next.2 ⟨hc, rfl⟩

/-! ## `Idle` stays quiet (10_state R36 (c)) -/

theorem nextTransfer_injects (h : nextTransfer s = .next t) : t.injects = s.injects := by
  obtain ⟨_, ⟨_, rfl⟩ | ⟨_, _, rfl⟩ | ⟨_, _, rfl⟩ | ⟨_, _, _, rfl⟩⟩ := nextTransfer_cases h <;> rfl

theorem nextTransfer_tstate_ne_idle (h : nextTransfer s = .next t) : t.tstate ≠ StateCode.idle := by
  obtain ⟨_, h⟩ | ⟨_, h⟩ := nextTransfer_tstate h <;> rw [h] <;> decide

/-- Outside `Idle` quiet `Idle` asks only that nothing is to be injected. -/
theorem quietIdle_of_busy (hi : s.injects = 0) (busy : s.tstate ≠ StateCode.idle) : QuietIdle s :=
  ⟨hi, fun _ h => absurd h busy⟩

/-- A shift runs outside `Idle`. -/
theorem ControlInv.busy_of_peripheralEnabled (inv : ControlInv s) (on : peripheralEnabled s = true) :
    s.tstate ≠ StateCode.idle := by
  obtain ⟨_, ⟨h, _⟩ | ⟨h, _⟩ | ⟨h, _⟩⟩ := inv.of_shift on <;> rw [h] <;> decide

/-- Every outcome of a turn keeps `Idle` quiet. -/
theorem TurnOutcome.keeps_quietIdle {a : Agent} (inv : ControlInv s) (quiet : QuietIdle s) (o : TurnOutcome s a t) :
    QuietIdle t := by
  have ⟨hi, hq⟩ := quiet
  cases o with
  | sequencerRests | peripheralRests | environmentRests | outside => exact quiet
  | init => exact ⟨hi, fun _ _ => ⟨rfl, rfl⟩⟩
  | submit => exact quietIdle_of_busy hi (show StateCode.start ≠ StateCode.idle by decide)
  | inject _ more => exact absurd (hi.symm.trans more) (by simp)
  | irqIdle on => exact ⟨hi, fun _ _ => ⟨rfl, inv.cnt_of_sequencerEnabled on⟩⟩
  | irqStart _ _ transfer =>
    exact quietIdle_of_busy ((nextTransfer_injects transfer).trans hi) (nextTransfer_tstate_ne_idle transfer)
  | irqRxtxAck _ _ _ transfer =>
    exact quietIdle_of_busy ((nextTransfer_injects transfer).trans hi) (nextTransfer_tstate_ne_idle transfer)
  | irqPrepack => exact quietIdle_of_busy hi (show StateCode.handleRxTx ≠ StateCode.idle by decide)
  | irqRxtxNack | irqPrepstop => exact quietIdle_of_busy hi (show StateCode.stop ≠ StateCode.idle by decide)
  | irqStop _ _ on => exact ⟨hi, fun _ _ => ⟨rfl, inv.cnt_of_sequencerEnabled on⟩⟩
  | shiftTx8 on | shiftRx1 on | shiftTx1 on => exact quietIdle_of_busy hi (inv.busy_of_peripheralEnabled on)

/-- Settles O53: every outcome of a turn keeps `Idle` quiet, and the schedule is not part of it. -/
theorem stepsKeepIdleQuiet : Obligations.StepsKeepIdleQuiet := by
  intro s t inv quiet h
  obtain ⟨sched, draws, o⟩ := step_outcome inv.nothingDirect h
  exact o.keeps_quietIdle (inv.turnTaken sched draws) quiet

/-! ## Where the engine stops (20_memory R42) -/

/-- A payload byte at what is not plain memory is refused. -/
theorem byteTransfer_of_not_plain (hp : s.phase = PhaseCode.sendPayload) (hm : ¬ plainMemory s s.ptr.toNat = true) :
    byteTransfer s = .refused .payloadNotPlainMemory := by
  have dispatch : loadByPhase (setOE true s) = loadPayload (setOE true s) := by
    simp [loadByPhase, hp, PhaseCode.sendAddress, PhaseCode.sendControl, PhaseCode.sendPayload]
  have refusal : loadPayload (setOE true s) = .refused .payloadNotPlainMemory := if_neg hm
  rw [byteTransfer, dispatch, refusal, andThen_refused]

/-- With no shift in flight and a phase of the table `prepareTransfer` answers, or it is refused a payload byte at what is
not plain memory. -/
theorem nextTransfer_answers (hc : s.cnt = 0) (hp : s.phase = PhaseCode.sendAddress ∨ phaseLoaded s) :
    (∃ t, nextTransfer s = .next t) ∨
      (nextTransfer s = .refused .payloadNotPlainMemory ∧ s.ptr.toNat ∈ s.notPlain ∧
        s.phase = PhaseCode.sendPayload ∧ s.len ≠ 0#_) := by
  rw [nextTransfer_eq]
  split
  · exact .inl ⟨_, stopPreparation_eq_next.2 ⟨hc, rfl⟩⟩
  · rename_i hl
    obtain hp | hp | hp := hp
    · exact .inl ⟨_, byteTransfer_of_sendAddress hc hp⟩
    · exact .inl ⟨_, byteTransfer_eq_next.2
        ⟨_, loadByPhase_eq_next.2 (.inr (.inl ⟨hp, loadControl_eq_next.2 ⟨hc, rfl⟩⟩)), rfl⟩⟩
    · by_cases hm : plainMemory s s.ptr.toNat = true
      · exact .inl ⟨_, byteTransfer_eq_next.2
          ⟨_, loadByPhase_eq_next.2 (.inr (.inr ⟨hp, loadPayload_eq_next.2 ⟨hm, hc, rfl⟩⟩)), rfl⟩⟩
      · have hn : s.len ≠ 0#_ := fun h0 => hl (lengthStops_iff.2 ⟨h0, .inr hp⟩)
        exact .inr ⟨byteTransfer_of_not_plain hp hm, by simpa [plainMemory] using hm, hp, hn⟩

/-- The sequencer's turn finds `CNT = 0` and a phase of the table, so it stops for a payload byte only. -/
theorem ControlInv.sequencerTurn_answers (inv : ControlInv s) :
    (∃ t, sequencerTurn s = .next t) ∨
      (sequencerTurn s = .refused .payloadNotPlainMemory ∧ s.ptr.toNat ∈ s.notPlain ∧
        s.phase = PhaseCode.sendPayload ∧ s.len ≠ 0#_) := by
  by_cases on : sequencerEnabled s = true
  · have hcnt := inv.cnt_of_sequencerEnabled on
    obtain ⟨hf, hg, hc⟩ := sequencerEnabled_iff.1 on
    obtain ⟨code, _⟩ | ⟨code, _, hp⟩ | ⟨code, _⟩ | ⟨code, hp, _⟩ | ⟨code, _⟩ := inv.shape
    · rw [sequencerTurn_of_entry (i := .irqIdle) hf hg hc (by rw [code]; rfl)]
      exact .inl ⟨_, rfl⟩
    · rw [sequencerTurn_of_entry (i := .irqStart) hf hg hc (by rw [code]; rfl)]
      exact nextTransfer_answers (s := pulseStartLatch (takeInterrupt s)) hcnt (.inl hp)
    · rw [sequencerTurn_of_entry (i := .irqPrepack) hf hg hc (by rw [code]; rfl)]
      exact .inl ⟨_, rfl⟩
    · rw [sequencerTurn_of_entry (i := .irqRxtx) hf hg hc (by rw [code]; rfl)]
      by_cases nack : nackBit s.sr = true
      · exact .inl ⟨_, (if_pos nack).trans (stopPreparation_eq_next.2 ⟨hcnt, rfl⟩)⟩
      · have ack : exec .irqRxtx s = nextTransfer (takeInterrupt s) := if_neg nack
        rw [ack]
        exact nextTransfer_answers (s := takeInterrupt s) hcnt (.inr hp)
    · rw [sequencerTurn_of_entry (i := .irqStop) hf hg hc (by rw [code]; rfl)]
      exact .inl ⟨_, rfl⟩
  · exact .inl ⟨s, if_neg on⟩

/-- A commanded shift has one of the three forms, so the peripheral's turn always answers. -/
theorem ControlInv.peripheralTurn_answers (inv : ControlInv s) : ∃ t, peripheralTurn s = .next t := by
  by_cases on : peripheralEnabled s = true
  · obtain ⟨hc, _⟩ := peripheralEnabled_iff.1 on
    obtain ⟨_, ⟨_, _, count, drive⟩ | ⟨_, _, count, drive⟩ | ⟨_, count, drive⟩⟩ := inv.of_shift on
    · exact ⟨_, peripheralTurn_of_tx8 hc count drive⟩
    · exact ⟨_, peripheralTurn_of_rx1 hc count drive⟩
    · exact ⟨_, peripheralTurn_of_tx1 hc count drive⟩
  · exact ⟨s, if_neg on⟩

/-- Settles O56: the two engine turns answer as the lemmas above say, in the state whose turn is taken off the schedule. -/
theorem engineStopsOnlyOnBadPayloadMemory : Obligations.EngineStopsOnlyOnBadPayloadMemory := by
  intro s inv ha
  obtain ⟨sched, draws, hpass⟩ := passTurn_eq s
  rw [step_of_turn inv.nothingDirect, hpass]
  obtain ha | ha := ha <;> rw [ha]
  · exact (inv.turnTaken sched draws).sequencerTurn_answers
  · exact .inl (inv.turnTaken sched draws).peripheralTurn_answers

/-! ## Reset (10_state R35) -/

/-- Settles O51: at reset nothing is configured, `Idle` holds and the wire trace is empty. -/
theorem resetIsIdleAndMeetsTheInvariants : Obligations.ResetIsIdleAndMeetsTheInvariants := by
  have unconfigured : State.reset.cfg ≠ true := by decide
  have control : ControlInv State.reset :=
    ⟨rfl, rfl, fun h => absurd h unconfigured, fun _ => rfl, .inl ⟨rfl, fun _ => rfl⟩⟩
  have quiet : QuietIdle State.reset := ⟨rfl, fun h => absurd h unconfigured⟩
  have wire : WireInv State.reset := ⟨fun busy => absurd rfl busy, .free, rfl, by rw [placeFits, if_pos (.inl rfl)]⟩
  exact ⟨rfl, rfl, rfl, rfl, rfl, rfl, control, quiet, wire, rfl⟩

end Sys2Proof.Safety
end

section
/-! PROOFS. The work left in a transaction (41_sequencer_steps R105, 70 R179): each engine step takes from it, and no
other step of a busy machine touches it. -/

namespace Sys2Proof.Safety

open Sys2Proof.Machine

variable {s t : State}

/-! ## The work left, state by state -/

theorem workLeft_of_start (h : s.tstate = StateCode.start) : workLeft s = 4 * bytesLeft s + 3 := if_pos h

theorem workLeft_of_prepareAckNack (h : s.tstate = StateCode.prepareAckNack) :
    workLeft s = 4 * bytesLeft s + (if s.cnt = 0 then 5 else 6) := by
  simp [workLeft, h, StateCode.start, StateCode.prepareAckNack]

theorem workLeft_of_handleRxTx (h : s.tstate = StateCode.handleRxTx) :
    workLeft s = 4 * bytesLeft s + (if s.cnt = 0 then 3 else 4) := by
  simp [workLeft, h, StateCode.start, StateCode.prepareAckNack, StateCode.handleRxTx]

theorem workLeft_of_stop (h : s.tstate = StateCode.stop) : workLeft s = if s.cnt = 0 then 1 else 2 := by
  simp [workLeft, h, StateCode.start, StateCode.prepareAckNack, StateCode.handleRxTx, StateCode.stop]

theorem workLeft_of_idle (h : s.tstate = StateCode.idle) : workLeft s = 0 := by
  simp [workLeft, h, StateCode.start, StateCode.prepareAckNack, StateCode.handleRxTx, StateCode.stop, StateCode.idle]

/-! ## The bytes left, phase by phase -/

theorem bytesLeft_of_sendAddress (hl : lengthStops s.zeroLenCheck s = false) (h : s.phase = PhaseCode.sendAddress) :
    bytesLeft s = s.len.toNat + 2 := by
  simp [bytesLeft, hl, h]

theorem bytesLeft_of_sendControl (hl : lengthStops s.zeroLenCheck s = false) (h : s.phase = PhaseCode.sendControl) :
    bytesLeft s = s.len.toNat + 1 := by
  simp [bytesLeft, hl, h, PhaseCode.sendAddress, PhaseCode.sendControl]

theorem bytesLeft_le_of_sendControl (h : s.phase = PhaseCode.sendControl) : bytesLeft s ≤ s.len.toNat + 1 := by
  simp only [bytesLeft, h]
  split <;> simp [PhaseCode.sendAddress, PhaseCode.sendControl]

/-- In the phase `SendPayload` the bytes left are the length, which stops the transfer when it is 0 in either setting. -/
theorem bytesLeft_of_sendPayload (h : s.phase = PhaseCode.sendPayload) : bytesLeft s = s.len.toNat := by
  by_cases h0 : s.len = 0#_
  · simp [bytesLeft, lengthStops_iff.2 ⟨h0, .inr h⟩, h0]
  · simp [bytesLeft, lengthStops_of_len h0, h, PhaseCode.sendAddress, PhaseCode.sendControl, PhaseCode.sendPayload]

/-- A byte that `prepareTransfer` loads is one byte less to load. -/
theorem bytesLeft_of_loaded (h : nextTransfer s = .next t) (loaded : t.tstate = StateCode.prepareAckNack) :
    t.cnt = 8 ∧ bytesLeft t + 1 ≤ bytesLeft s := by
  obtain ⟨_, ⟨_, rfl⟩ | ⟨hl, hp, rfl⟩ | ⟨hl, hp, rfl⟩ | ⟨hn, hp, _, rfl⟩⟩ := nextTransfer_cases h
  · exact absurd loaded (show StateCode.stop ≠ StateCode.prepareAckNack by decide)
  · refine ⟨rfl, ?_⟩
    rw [bytesLeft_of_sendAddress hl hp]
    exact Nat.succ_le_succ (bytesLeft_le_of_sendControl rfl)
  · refine ⟨rfl, ?_⟩
    rw [bytesLeft_of_sendControl hl hp, bytesLeft_of_sendPayload rfl]
  · refine ⟨rfl, ?_⟩
    have := len_ne_zero.1 hn
    rw [bytesLeft_of_sendPayload hp, bytesLeft_of_sendPayload (by exact hp), len_sub_one hn]
    omega

/-- Each byte is worth four steps, so `prepareTransfer` spends work whether it loads one or prepares the stop. -/
theorem nextTransfer_spends (h : nextTransfer s = .next t) : workLeft t + 1 ≤ 4 * bytesLeft s + 3 := by
  obtain ⟨_, stopped⟩ | ⟨_, loaded⟩ := nextTransfer_tstate h
  · rw [workLeft_of_stop stopped]
    split <;> omega
  · obtain ⟨hc, left⟩ := bytesLeft_of_loaded h loaded
    rw [workLeft_of_prepareAckNack loaded, if_neg (by rw [hc]; decide)]
    omega

/-- While a transaction runs, exactly one of sequencer and peripheral has a step. -/
theorem ControlInv.sequencerEnabled_eq (inv : ControlInv s) (busy : s.tstate ≠ StateCode.idle) :
    sequencerEnabled s = !peripheralEnabled s := by
  obtain ⟨hc, hg⟩ := inv.configured_of_busy busy
  obtain ⟨hn, hf⟩ | ⟨hn, hf⟩ := inv.pending_or_shifting busy <;>
    simp [sequencerEnabled, peripheralEnabled, hc, hg, hf, hn]

/-- Sequencer or peripheral has a step and it is that agent's turn. -/
def engineMoves (a : Agent) (s : State) : Prop := enabled a s = true ∧ (a = .sequencer ∨ a = .peripheral)

theorem engineMoves_sequencer : engineMoves .sequencer s ↔ sequencerEnabled s = true := by
  simp [engineMoves, enabled]

theorem engineMoves_peripheral : engineMoves .peripheral s ↔ peripheralEnabled s = true := by
  simp [engineMoves, enabled]

/-- In a busy machine an outcome is a step of the engine, which spends work, or it leaves the work as it is. -/
theorem TurnOutcome.work {a : Agent} (inv : ControlInv s) (busy : s.tstate ≠ StateCode.idle)
    (o : TurnOutcome s a t) :
    (engineMoves a s ∧ workLeft t + 1 ≤ workLeft s) ∨ (¬ engineMoves a s ∧ workLeft t = workLeft s) := by
  cases o with
  | sequencerRests off => exact .inr ⟨by simp [engineMoves_sequencer, off], rfl⟩
  | peripheralRests off => exact .inr ⟨by simp [engineMoves_peripheral, off], rfl⟩
  | environmentRests | outside => exact .inr ⟨by simp [engineMoves], rfl⟩
  | init _ _ _ unconfigured => exact absurd (inv.idleUntilConfigured unconfigured) busy
  | submit _ _ _ _ _ _ _ atIdle | inject _ _ atIdle => exact absurd atIdle busy
  | irqIdle _ code => exact absurd code busy
  | irqPrepstop _ code => exact absurd code inv.tstate_ne_prepareStop
  | irqStart on code transfer =>
    refine .inl ⟨engineMoves_sequencer.2 on, ?_⟩
    rw [workLeft_of_start code]
    exact (nextTransfer_spends transfer :)
  | irqPrepack on code =>
    refine .inl ⟨engineMoves_sequencer.2 on, ?_⟩
    rw [workLeft_of_prepareAckNack code, workLeft_of_handleRxTx rfl, if_pos (inv.cnt_of_sequencerEnabled on)]
    exact le_refl (4 * bytesLeft s + 5)
  | irqRxtxNack on code =>
    refine .inl ⟨engineMoves_sequencer.2 on, ?_⟩
    rw [workLeft_of_handleRxTx code, workLeft_of_stop rfl, if_pos (inv.cnt_of_sequencerEnabled on)]
    exact Nat.le_add_left 3 _
  | irqRxtxAck on code _ transfer =>
    refine .inl ⟨engineMoves_sequencer.2 on, ?_⟩
    rw [workLeft_of_handleRxTx code, if_pos (inv.cnt_of_sequencerEnabled on)]
    exact (nextTransfer_spends transfer :)
  | irqStop _ _ on code =>
    refine .inl ⟨engineMoves_sequencer.2 on, ?_⟩
    rw [workLeft_of_stop code, workLeft_of_idle rfl, if_pos (inv.cnt_of_sequencerEnabled on)]
  | shiftTx8 on count =>
    obtain ⟨code, _⟩ := inv.of_shiftTx8 on count
    refine .inl ⟨engineMoves_peripheral.2 on, ?_⟩
    rw [workLeft_of_prepareAckNack code, workLeft_of_prepareAckNack (by exact code), count]
    exact le_refl (4 * bytesLeft s + 6)
  | shiftRx1 on count drive =>
    obtain ⟨code, _⟩ := inv.of_shiftRx1 on drive
    refine .inl ⟨engineMoves_peripheral.2 on, ?_⟩
    rw [workLeft_of_handleRxTx code, workLeft_of_handleRxTx (by exact code), count]
    exact le_refl (4 * bytesLeft s + 4)
  | shiftTx1 on count drive =>
    obtain ⟨code, _⟩ := inv.of_shiftTx1 on count drive
    refine .inl ⟨engineMoves_peripheral.2 on, ?_⟩
    rw [workLeft_of_stop code, workLeft_of_stop (by exact code), count]
    exact le_refl 2

/-- A `SUBMIT` leaves the steps of 41_sequencer_steps R105: the stop alone where the length stops the transfer at once, and
otherwise four for each byte of the frame and three more. -/
theorem workLeft_of_submitted (hs : s.tstate = StateCode.start) (hp : s.phase = PhaseCode.sendAddress) :
    workLeft s =
      if s.len.toNat = 0 ∧ s.zeroLenCheck = .everyCall then 2 + 1
      else (2 * s.len.toNat + 6) + (2 * s.len.toNat + 5) := by
  have stops : lengthStops s.zeroLenCheck s = true ↔ s.len.toNat = 0 ∧ s.zeroLenCheck = .everyCall := by
    have hlen : s.len = 0#_ ↔ s.len.toNat = 0 := not_iff_not.1 len_ne_zero
    have hphase : s.phase ≠ PhaseCode.sendPayload := by rw [hp]; decide
    rw [lengthStops_iff, hlen]
    simp [hphase]
  rw [workLeft_of_start hs]
  split
  · rename_i h
    simp [bytesLeft, stops.2 h]
  · rename_i h
    rw [bytesLeft_of_sendAddress (by rwa [← Bool.not_eq_true, stops]) hp]
    omega

/-- Settles O57: the two engine agents' enabling conditions exclude each other, the outcomes of a turn spend work as the
lemmas above say, and `SUBMIT` leaves the counts of R105. -/
theorem eachEngineStepSpendsWork : Obligations.EachEngineStepSpendsWork := by
  refine ⟨fun s inv busy => inv.sequencerEnabled_eq busy, fun s t inv busy h => ?_,
    fun s hs hp => workLeft_of_submitted hs hp⟩
  obtain ⟨sched, draws, o⟩ := step_outcome inv.nothingDirect h
  obtain ⟨hm, hw⟩ | ⟨hm, hw⟩ := o.work (inv.turnTaken sched draws) busy
  · exact (if_pos hm).mpr hw
  · exact (if_neg hm).mpr hw

end Sys2Proof.Safety
end

section
/-! PROOFS. The wire trace follows the frame grammar of 30_encoding R68: what a place says in each control state, and how
each event moves it. -/

namespace Sys2Proof.Safety

open Sys2Proof.Machine

variable {s t : State} {p q : WirePos}

/-! ## The place of the trace, state by state -/

theorem placeFits_of_idle (h : s.tstate = StateCode.idle) : placeFits s p ↔ p = .free := by
  simp [placeFits, h]

theorem placeFits_of_start (h : s.tstate = StateCode.start) : placeFits s p ↔ p = .free := by
  simp [placeFits, h]

theorem placeFits_of_byteSent (h : s.tstate = StateCode.prepareAckNack) (hf : s.ifg = true) :
    placeFits s p ↔ ∃ n, p = .byteSent n ∧ phaseCounts s n := by
  simp [placeFits, h, hf, StateCode.idle, StateCode.start, StateCode.prepareAckNack]

theorem placeFits_of_sendingByte (h : s.tstate = StateCode.prepareAckNack) (hf : s.ifg = false) :
    placeFits s p ↔
      (s.phase = PhaseCode.sendControl ∧ p = .started ∧ s.sr = addrByte) ∨
        (s.phase = PhaseCode.sendPayload ∧ ∃ n, 1 ≤ n ∧ p = .acked n ∧ (n = 1 → s.sr = s.ctrl)) := by
  simp [placeFits, h, hf, StateCode.idle, StateCode.start, StateCode.prepareAckNack]

theorem placeFits_of_ackSlot (h : s.tstate = StateCode.handleRxTx) (hf : s.ifg = false) :
    placeFits s p ↔ ∃ n, p = .byteSent n ∧ phaseCounts s n := by
  simp [placeFits, h, hf, StateCode.idle, StateCode.start, StateCode.prepareAckNack, StateCode.handleRxTx]

theorem placeFits_of_nacked (h : s.tstate = StateCode.handleRxTx) (hf : s.ifg = true) (nack : nackBit s.sr = true) :
    placeFits s p ↔ p = .nacked := by
  simp [placeFits, h, hf, nack, StateCode.idle, StateCode.start, StateCode.prepareAckNack, StateCode.handleRxTx]

theorem placeFits_of_acked (h : s.tstate = StateCode.handleRxTx) (hf : s.ifg = true) (ack : nackBit s.sr = false) :
    placeFits s p ↔ ∃ n, p = .acked n ∧ phaseCounts s n := by
  simp [placeFits, h, hf, ack, StateCode.idle, StateCode.start, StateCode.prepareAckNack, StateCode.handleRxTx]

theorem placeFits_of_stop (h : s.tstate = StateCode.stop) :
    placeFits s p ↔ p = .started ∨ p = .nacked ∨ ∃ n, p = .acked n := by
  simp [placeFits, h, StateCode.idle, StateCode.start, StateCode.prepareAckNack, StateCode.handleRxTx, StateCode.stop]

/-! ## Events on the wire -/

/-- An event the grammar admits at the end of a trace. -/
theorem wireRun_snoc {w : List WireEvent} {e : WireEvent} (h : wireRun .free w = some p) (hn : wireNext p e = some q) :
    wireRun .free (w ++ [e]) = some q := by
  rw [wireRun_append h]
  simp [wireRun, hn]

/-- The slave's answer is bit 0 of the shift register after the ACK slot (42_peripheral_primitives R120). -/
theorem nackBit_ackRegister (high : BitVec 7) (n : Bool) : nackBit (ackRegister high n) = n := by
  change (high ++ BitVec.ofBool n)[0] = n
  rw [BitVec.getElem_append]
  cases n <;> rfl

/-- `STOP` is admitted wherever the trace can stand in `Stop`. -/
theorem wireNext_stop (h : p = .started ∨ p = .nacked ∨ ∃ n, p = .acked n) : wireNext p .stop = some .free := by
  obtain rfl | rfl | ⟨n, rfl⟩ := h <;> rfl

/-- A byte after an ACK is admitted, the second of a frame because it is a legal control byte. -/
theorem wireNext_byte_of_acked {n : Nat} {b : Byte} (h : n = 1 → legalControlByte b = true) :
    wireNext (.acked n) (.byte b) = some (.byteSent (n + 1)) := by
  simp only [wireNext, ite_eq_right_iff, reduceCtorEq, imp_false, not_and, Bool.not_eq_false]
  exact h

/-- Where `prepareTransfer` may run: after `START` with the address byte to load, or after the ACK of the byte before the
one that `PHASE` names. -/
def transferPlace (s : State) (p : WirePos) : Prop :=
  (p = .started ∧ s.phase = PhaseCode.sendAddress) ∨ ∃ n, p = .acked n ∧ phaseCounts s n

/-- `prepareTransfer` puts nothing on the wire, and loads the byte that the trace's place asks for. -/
theorem nextTransfer_placeFits (h : nextTransfer s = .next t) (hf : s.ifg = false) (hp : transferPlace s p) :
    placeFits t p := by
  obtain ⟨_, ⟨_, rfl⟩ | ⟨_, hph, rfl⟩ | ⟨_, hph, rfl⟩ | ⟨_, hph, _, rfl⟩⟩ := nextTransfer_cases h
  · refine (placeFits_of_stop rfl).2 ?_
    obtain ⟨rfl, _⟩ | ⟨n, rfl, _⟩ := hp
    · exact .inl rfl
    · exact .inr (.inr ⟨n, rfl⟩)
  · refine (placeFits_of_sendingByte rfl (by exact hf)).2 (.inl ⟨rfl, ?_, rfl⟩)
    obtain ⟨rfl, _⟩ | ⟨_, _, ⟨hc, _⟩ | ⟨hc, _⟩⟩ := hp
    · rfl
    · exact absurd (hph.symm.trans hc) (by decide)
    · exact absurd (hph.symm.trans hc) (by decide)
  · refine (placeFits_of_sendingByte rfl (by exact hf)).2 (.inr ⟨rfl, 1, le_refl 1, ?_, fun _ => rfl⟩)
    obtain ⟨_, hc⟩ | ⟨_, rfl, ⟨_, rfl⟩ | ⟨hc, _⟩⟩ := hp
    · exact absurd (hph.symm.trans hc) (by decide)
    · rfl
    · exact absurd (hph.symm.trans hc) (by decide)
  · refine (placeFits_of_sendingByte rfl (by exact hf)).2 (.inr ⟨hph, ?_⟩)
    obtain ⟨_, hc⟩ | ⟨n, rfl, ⟨hc, _⟩ | ⟨_, hn⟩⟩ := hp
    · exact absurd (hph.symm.trans hc) (by decide)
    · exact absurd (hph.symm.trans hc) (by decide)
    · exact ⟨n, by omega, rfl, fun h => absurd hn (by omega)⟩

theorem nextTransfer_w (h : nextTransfer s = .next t) : t.w = s.w := by
  obtain ⟨_, ⟨_, rfl⟩ | ⟨_, _, rfl⟩ | ⟨_, _, rfl⟩ | ⟨_, _, _, rfl⟩⟩ := nextTransfer_cases h <;> rfl

theorem nextTransfer_ctrl (h : nextTransfer s = .next t) : t.ctrl = s.ctrl := by
  obtain ⟨_, ⟨_, rfl⟩ | ⟨_, _, rfl⟩ | ⟨_, _, rfl⟩ | ⟨_, _, _, rfl⟩⟩ := nextTransfer_cases h <;> rfl

/-- `prepareTransfer` keeps the wire invariant from a place where it may run. -/
theorem wireInv_of_nextTransfer (h : nextTransfer s = .next t) (hf : s.ifg = false)
    (legal : legalControlByte s.ctrl = true) (hw : wireRun .free s.w = some p) (hp : transferPlace s p) : WireInv t :=
  ⟨fun _ => by rw [nextTransfer_ctrl h]; exact legal,
    p, by rw [nextTransfer_w h]; exact hw, nextTransfer_placeFits h hf hp⟩

/-! ## The wire invariant -/

/-- In `Idle` the place is before a frame, whatever else the state holds. -/
theorem wireInv_of_idle (h : s.tstate = StateCode.idle) (hw : wireRun .free s.w = some .free) : WireInv s :=
  ⟨fun busy => absurd h busy, .free, hw, (placeFits_of_idle h).2 rfl⟩

theorem WireInv.run_of_idle (wire : WireInv s) (h : s.tstate = StateCode.idle) : wireRun .free s.w = some .free := by
  obtain ⟨p, hw, hp⟩ := wire.trace
  rw [hw, (placeFits_of_idle h).1 hp]

/-- `SHIFT_TX8` sends the byte that was loaded for the trace's place. -/
theorem wireInv_of_shiftTx8 (wire : WireInv s) (code : s.tstate = StateCode.prepareAckNack) (hf : s.ifg = false)
    (draw : Byte) (draws : Nat) :
    WireInv { s with w := s.w ++ [.byte s.sr], sr := draw, draws := draws, cnt := 0, ifg := true } := by
  have legal := wire.control (by rw [code]; decide)
  obtain ⟨p, hw, hp⟩ := wire.trace
  obtain ⟨hph, rfl, hsr⟩ | ⟨hph, n, hn, rfl, hsr⟩ := (placeFits_of_sendingByte code hf).1 hp
  · exact ⟨fun _ => legal, .byteSent 1, wireRun_snoc hw (if_pos hsr),
      Iff.mpr (placeFits_of_byteSent code rfl) ⟨1, rfl, .inl ⟨hph, rfl⟩⟩⟩
  · have next := wireNext_byte_of_acked (n := n) (b := s.sr) fun h => by rw [hsr h]; exact legal
    exact ⟨fun _ => legal, .byteSent (n + 1), wireRun_snoc hw next,
      Iff.mpr (placeFits_of_byteSent code rfl) ⟨n + 1, rfl, .inr ⟨hph, by omega⟩⟩⟩

/-- `SHIFT_RX1` puts the slave's answer on the wire and in bit 0 of the shift register. -/
theorem wireInv_of_shiftRx1 (wire : WireInv s) (code : s.tstate = StateCode.handleRxTx) (hf : s.ifg = false)
    (answer : Bool) (high : BitVec 7) (slot draws : Nat) :
    WireInv { s with
      w := s.w ++ [.ackbit answer], nackslot := slot, sr := ackRegister high answer, draws := draws, cnt := 0
      ifg := true } := by
  have legal := wire.control (by rw [code]; decide)
  obtain ⟨p, hw, hp⟩ := wire.trace
  obtain ⟨n, rfl, hn⟩ := (placeFits_of_ackSlot code hf).1 hp
  refine ⟨fun _ => legal, _, wireRun_snoc hw rfl, ?_⟩
  cases answer with
  | true => exact Iff.mpr (placeFits_of_nacked code rfl (nackBit_ackRegister high true)) rfl
  | false => exact Iff.mpr (placeFits_of_acked code rfl (nackBit_ackRegister high false)) ⟨n, rfl, hn⟩

/-- Every outcome of a turn keeps the wire invariant. -/
theorem TurnOutcome.keeps_wireInv {a : Agent} (inv : ControlInv s) (wire : WireInv s) (o : TurnOutcome s a t) :
    WireInv t := by
  have ⟨legal, p, hw, hp⟩ := wire
  cases o with
  | sequencerRests | peripheralRests | environmentRests => exact wire
  | outside => exact ⟨legal, p, hw, hp⟩
  | init _ _ _ unconfigured =>
    have code := inv.idleUntilConfigured unconfigured
    exact wireInv_of_idle code (wire.run_of_idle code)
  | inject _ _ code | irqIdle _ code => exact wireInv_of_idle code (wire.run_of_idle code)
  | submit _ _ _ _ _ _ _ code legalNew =>
    exact ⟨fun _ => legalNew, .free, wire.run_of_idle code, (placeFits_of_start rfl).2 rfl⟩
  | irqStart _ code transfer =>
    obtain ⟨_, hph⟩ := (controlShape_of_start code).1 inv.shape
    obtain rfl := (placeFits_of_start code).1 hp
    exact wireInv_of_nextTransfer transfer rfl (legal (by rw [code]; decide)) (wireRun_snoc hw rfl)
      (.inl ⟨rfl, hph⟩)
  | irqPrepack on code =>
    obtain ⟨hf, _⟩ := sequencerEnabled_iff.1 on
    exact ⟨fun _ => legal (by rw [code]; decide), p, hw,
      (placeFits_of_ackSlot rfl rfl).2 ((placeFits_of_byteSent code hf).1 hp)⟩
  | irqRxtxNack on code nack =>
    obtain ⟨hf, _⟩ := sequencerEnabled_iff.1 on
    exact ⟨fun _ => legal (by rw [code]; decide), p, hw,
      (placeFits_of_stop rfl).2 (.inr (.inl ((placeFits_of_nacked code hf nack).1 hp)))⟩
  | irqRxtxAck on code ack transfer =>
    obtain ⟨hf, _⟩ := sequencerEnabled_iff.1 on
    exact wireInv_of_nextTransfer transfer rfl (legal (by rw [code]; decide)) hw
      (.inr ((placeFits_of_acked code hf ack).1 hp))
  | irqPrepstop _ code => exact absurd code inv.tstate_ne_prepareStop
  | irqStop _ _ _ code =>
    exact wireInv_of_idle rfl (wireRun_snoc hw (wireNext_stop ((placeFits_of_stop code).1 hp)))
  | shiftTx8 on count =>
    obtain ⟨code, _, hf⟩ := inv.of_shiftTx8 on count
    exact wireInv_of_shiftTx8 wire code hf _ _
  | shiftRx1 on _ drive =>
    obtain ⟨code, _, hf⟩ := inv.of_shiftRx1 on drive
    exact wireInv_of_shiftRx1 wire code hf _ _ _ _
  | shiftTx1 on count drive =>
    obtain ⟨code, _⟩ := inv.of_shiftTx1 on count drive
    exact ⟨legal, p, hw, Iff.mpr (placeFits_of_stop code) ((placeFits_of_stop code).1 hp)⟩

/-- Settles O54: the wire invariant survives every outcome of a turn, and the schedule is not part of it. -/
theorem stepsKeepTheWireWellFormed : Obligations.StepsKeepTheWireWellFormed := by
  intro s t inv wire h
  obtain ⟨sched, draws, o⟩ := step_outcome inv.nothingDirect h
  exact o.keeps_wireInv (inv.turnTaken sched draws) ⟨wire.control, wire.trace⟩

end Sys2Proof.Safety
end

section
/-! PROOFS. What the operations do to the cursor and the logs (41_sequencer_steps R104, 10_state R31 to R33). -/

namespace Sys2Proof.Safety

open Sys2Proof.Machine

variable {s t : State}

/-! ## The cursor and the length -/

/-- `prepareTransfer` moves the cursor where it loads a payload byte, and only there. -/
theorem nextTransfer_cursor (h : nextTransfer s = .next t) :
    (t.ptr = s.ptr ∧ t.len = s.len) ∨
      ((s.phase = PhaseCode.sendPayload ∧ s.len ≠ 0#_) ∧ t.ptr = nextCursor s.ptr s.rpt ∧ t.len = s.len - 1#_) := by
  obtain ⟨_, ⟨_, rfl⟩ | ⟨_, _, rfl⟩ | ⟨_, _, rfl⟩ | ⟨hn, hp, _, rfl⟩⟩ := nextTransfer_cases h
  · exact .inl ⟨rfl, rfl⟩
  · exact .inl ⟨rfl, rfl⟩
  · exact .inl ⟨rfl, rfl⟩
  · exact .inr ⟨⟨hp, hn⟩, rfl, rfl⟩

/-- Settles O40: `XFER_PAYLOAD` and the three operations that run `prepareTransfer` move the cursor as those do; every
other operation but `SUBMIT` leaves it alone. -/
theorem cursorAndLengthMoveTogether : Obligations.CursorAndLengthMoveTogether := by
  intro i s t h notSubmit
  cases i with
  | submit ctrl ptr len rpt wmask => exact absurd rfl (notSubmit ctrl ptr len rpt wmask)
  | xferPayload =>
    obtain ⟨_, _, rfl⟩ := loadPayload_eq_next.1 h
    exact .inr ⟨.inl rfl, rfl, rfl⟩
  | irqStart =>
    exact (nextTransfer_cursor (s := pulseStartLatch (takeInterrupt s)) h).imp_right
      fun ⟨loads, moved⟩ => ⟨.inr ⟨by decide, loads⟩, moved⟩
  | prepareTransfer =>
    exact (nextTransfer_cursor h).imp_right fun ⟨loads, moved⟩ => ⟨.inr ⟨by decide, loads⟩, moved⟩
  | irqRxtx =>
    obtain ⟨_, _, rfl⟩ | ⟨_, transfer⟩ := execIrqRxtx_cases h
    · exact .inl ⟨rfl, rfl⟩
    · exact (nextTransfer_cursor transfer).imp_right fun ⟨loads, moved⟩ => ⟨.inr ⟨by decide, loads⟩, moved⟩
  | irqStop =>
    obtain rfl := next_eq_next.1 h
    exact .inl ⟨wakeHost_ptr _, wakeHost_len _⟩
  | init div src =>
    obtain ⟨_, rfl⟩ := execInit_eq_next.1 h
    exact .inl ⟨rfl, rfl⟩
  | irqPrepstop | prepareStop =>
    obtain ⟨_, rfl⟩ := stopPreparation_eq_next.1 h
    exact .inl ⟨rfl, rfl⟩
  | xferAddr =>
    obtain ⟨_, rfl⟩ := loadAddress_eq_next.1 h
    exact .inl ⟨rfl, rfl⟩
  | xferCtrl =>
    obtain ⟨_, rfl⟩ := loadControl_eq_next.1 h
    exact .inl ⟨rfl, rfl⟩
  | loadShiftRegister b =>
    obtain ⟨_, rfl⟩ := loadSR_eq_next.1 h
    exact .inl ⟨rfl, rfl⟩
  | shiftBits n =>
    obtain ⟨_, rfl⟩ := commandShift_eq_next.1 h
    exact .inl ⟨rfl, rfl⟩
  | isidle | irqIdle | irqPrepack | readShiftRegister | setOutputEnable | assertStartLatch | raiseInterruptFlag
  | clearInterruptFlag | configurePeripheral | disableInterrupts | enableInterrupts | shiftTx8 | shiftRx1 | shiftTx1 =>
    obtain rfl := next_eq_next.1 h
    exact .inl ⟨rfl, rfl⟩

/-! ## The logs -/

theorem nextTransfer_logs (h : nextTransfer s = .next t) : t.w = s.w ∧ t.k = s.k ∧ t.nackslot = s.nackslot := by
  obtain ⟨_, ⟨_, rfl⟩ | ⟨_, _, rfl⟩ | ⟨_, _, rfl⟩ | ⟨_, _, _, rfl⟩⟩ := nextTransfer_cases h <;> exact ⟨rfl, rfl, rfl⟩

theorem wakeHost_k : (wakeHost s).k = s.k ++ (if s.wmask ≠ 0#_ then [s.wmask] else []) := by
  unfold wakeHost
  split <;> simp_all

/-- What R31 to R33 of 10_state say of the logs of an operation that takes `s` to `t`. -/
def LogsGrow (i : Instr) (s t : State) : Prop :=
  t.w = s.w ++ eventsOf i s ∧
  t.k = s.k ++ (if i = .irqStop ∧ s.wmask ≠ 0#_ then [s.wmask] else []) ∧
  t.nackslot = s.nackslot + (if i = .shiftRx1 then 1 else 0)

/-- An operation other than `IRQ_STOP` and `SHIFT_RX1` has its events to append and nothing else to log. -/
theorem logsGrow_of_events {i : Instr} (hstop : i ≠ .irqStop) (hrx : i ≠ .shiftRx1)
    (logs : t.w = s.w ++ eventsOf i s ∧ t.k = s.k ∧ t.nackslot = s.nackslot) : LogsGrow i s t := by
  rw [LogsGrow, if_neg fun h => hstop h.1, if_neg hrx, List.append_nil]
  exact logs

/-- An operation without events, other than `IRQ_STOP` and `SHIFT_RX1`, has nothing to log. -/
theorem logsGrow_of_silent {i : Instr} (hstop : i ≠ .irqStop) (hrx : i ≠ .shiftRx1) (silent : eventsOf i s = [])
    (logs : t.w = s.w ∧ t.k = s.k ∧ t.nackslot = s.nackslot) : LogsGrow i s t :=
  logsGrow_of_events hstop hrx (by rwa [silent, List.append_nil])

/-- Settles O41: five operations append an event, `IRQ_STOP` among them logs the wake-up and `SHIFT_RX1` counts its slot;
every other operation leaves the logs alone. -/
theorem logsGrowByWhatTheRulesName : Obligations.LogsGrowByWhatTheRulesName := by
  intro i s t h
  change LogsGrow i s t
  cases i with
  | irqStart =>
    exact logsGrow_of_events nofun nofun (nextTransfer_logs (s := pulseStartLatch (takeInterrupt s)) h)
  | assertStartLatch | shiftTx8 =>
    obtain rfl := next_eq_next.1 h
    exact logsGrow_of_events nofun nofun ⟨rfl, rfl, rfl⟩
  | irqStop =>
    obtain rfl := next_eq_next.1 h
    refine ⟨wakeHost_w _, ?_, wakeHost_nackslot _⟩
    simp only [true_and]
    exact wakeHost_k
  | shiftRx1 =>
    obtain rfl := next_eq_next.1 h
    exact ⟨rfl, by simp, rfl⟩
  | prepareTransfer => exact logsGrow_of_silent nofun nofun rfl (nextTransfer_logs h)
  | irqRxtx =>
    obtain ⟨_, _, rfl⟩ | ⟨_, transfer⟩ := execIrqRxtx_cases h
    · exact logsGrow_of_silent nofun nofun rfl ⟨rfl, rfl, rfl⟩
    · exact logsGrow_of_silent nofun nofun rfl (nextTransfer_logs (s := takeInterrupt s) transfer)
  | init div src =>
    obtain ⟨_, rfl⟩ := execInit_eq_next.1 h
    exact logsGrow_of_silent nofun nofun rfl ⟨rfl, rfl, rfl⟩
  | submit ctrl ptr len rpt wmask =>
    obtain ⟨_, ht⟩ := execSubmit_eq_next.1 h
    refine logsGrow_of_silent nofun nofun rfl ?_
    split at ht <;> subst ht <;> exact ⟨rfl, rfl, rfl⟩
  | irqPrepstop | prepareStop =>
    obtain ⟨_, rfl⟩ := stopPreparation_eq_next.1 h
    exact logsGrow_of_silent nofun nofun rfl ⟨rfl, rfl, rfl⟩
  | xferAddr =>
    obtain ⟨_, rfl⟩ := loadAddress_eq_next.1 h
    exact logsGrow_of_silent nofun nofun rfl ⟨rfl, rfl, rfl⟩
  | xferCtrl =>
    obtain ⟨_, rfl⟩ := loadControl_eq_next.1 h
    exact logsGrow_of_silent nofun nofun rfl ⟨rfl, rfl, rfl⟩
  | xferPayload =>
    obtain ⟨_, _, rfl⟩ := loadPayload_eq_next.1 h
    exact logsGrow_of_silent nofun nofun rfl ⟨rfl, rfl, rfl⟩
  | loadShiftRegister b =>
    obtain ⟨_, rfl⟩ := loadSR_eq_next.1 h
    exact logsGrow_of_silent nofun nofun rfl ⟨rfl, rfl, rfl⟩
  | shiftBits n =>
    obtain ⟨_, rfl⟩ := commandShift_eq_next.1 h
    exact logsGrow_of_silent nofun nofun rfl ⟨rfl, rfl, rfl⟩
  | isidle | irqIdle | irqPrepack | readShiftRegister | setOutputEnable | raiseInterruptFlag | clearInterruptFlag
  | configurePeripheral | disableInterrupts | enableInterrupts | shiftTx1 =>
    obtain rfl := next_eq_next.1 h
    exact logsGrow_of_silent nofun nofun rfl ⟨rfl, rfl, rfl⟩

end Sys2Proof.Safety
end

section
/-! PROOFS. The clock parameters influence nothing (10_state R29, 70 R181): every operation and every turn has the same
outcome from two states that differ in them only. -/

namespace Sys2Proof.Machine

variable {s t : State}

/-- `s` with other clock parameters. -/
def setClock (d : ClkDiv) (c : ClkSrc) (s : State) : State := { s with clkdiv := d, clksrc := c }

/-- The same fault, the same refusal, or next states that differ in the clock parameters only. -/
inductive SameButClock : Result → Result → Prop
  | next (t : State) (d : ClkDiv) (c : ClkSrc) : SameButClock (.next t) (.next (setClock d c t))
  | fault (e : Fault) : SameButClock (.fault e) (.fault e)
  | refused (e : Refusal) : SameButClock (.refused e) (.refused e)

/-- The clock parameters do not influence what `f` answers. -/
def ClockBlind (f : State → Result) : Prop := ∀ s d c, SameButClock (f s) (f (setClock d c s))

@[simp] theorem setClock_tstate (d : ClkDiv) (c : ClkSrc) : (setClock d c s).tstate = s.tstate := rfl
@[simp] theorem setClock_wmask (d : ClkDiv) (c : ClkSrc) : (setClock d c s).wmask = s.wmask := rfl
@[simp] theorem setClock_program (d : ClkDiv) (c : ClkSrc) : (setClock d c s).program = s.program := rfl
@[simp] theorem setClock_injects (d : ClkDiv) (c : ClkSrc) : (setClock d c s).injects = s.injects := rfl

/-! ## How blindness composes -/

namespace ClockBlind

/-- An update that keeps states alike alike. -/
theorem next {g : State → State} (h : ∀ s d c, ∃ d' c', g (setClock d c s) = setClock d' c' (g s)) :
    ClockBlind fun s => .next (g s) := by
  intro s d c
  obtain ⟨d', c', hg⟩ := h s d c
  simp only [hg]
  exact .next (g s) d' c'

/-- An update that has nothing to do with the clock parameters. -/
theorem next_comm {g : State → State} (h : ∀ s d c, g (setClock d c s) = setClock d c (g s)) :
    ClockBlind fun s => .next (g s) :=
  .next fun s d c => ⟨d, c, h s d c⟩

theorem refused (e : Refusal) : ClockBlind fun _ => .refused e := fun _ _ _ => .refused e

theorem fault (e : Fault) : ClockBlind fun _ => .fault e := fun _ _ _ => .fault e

theorem rejected (e : Reject) : ClockBlind fun _ => Machine.rejected e := by
  cases e with
  | badStateCode => exact .fault _
  | badPhaseCode => exact .fault _
  | reservedHostCommand | reservedPrimitive | receiveNotSupported | badShiftCount => exact .refused _

theorem andThen {f g : State → Result} (hf : ClockBlind f) (hg : ClockBlind g) :
    ClockBlind fun s => Machine.andThen (f s) g := by
  intro s d c
  have same := hf s d c
  beta_reduce
  generalize f s = r, f (setClock d c s) = r' at same ⊢
  cases same with
  | next t d' c' => exact hg t d' c'
  | fault e => exact .fault e
  | refused e => exact .refused e

/-- A choice made by something other than the clock parameters. -/
theorem ite {p : State → Prop} [DecidablePred p] {f g : State → Result} (hp : ∀ s d c, p (setClock d c s) ↔ p s)
    (hf : ClockBlind f) (hg : ClockBlind g) : ClockBlind fun s => if p s then f s else g s := by
  intro s d c
  simp only [hp]
  split
  · exact hf s d c
  · exact hg s d c

theorem comp {f : State → Result} {g : State → State} (hf : ClockBlind f)
    (hg : ∀ s d c, g (setClock d c s) = setClock d c (g s)) : ClockBlind fun s => f (g s) := by
  intro s d c
  simp only [hg]
  exact hf (g s) d c

end ClockBlind

/-! ## The shared operations -/

theorem loadSR_clockBlind (b : Byte) : ClockBlind (loadSR b) :=
  .ite (fun _ _ _ => Iff.rfl) (.next_comm fun _ _ _ => rfl) (.refused _)

/-- Loading a byte that the state holds somewhere else than in the clock parameters. -/
theorem loadSR_held_clockBlind (b : State → Byte) (hb : ∀ s d c, b (setClock d c s) = b s) :
    ClockBlind fun s => loadSR (b s) s := by
  intro s d c
  simp only [hb]
  exact loadSR_clockBlind (b s) s d c

theorem commandShift_clockBlind (n : Nat) : ClockBlind (commandShift n) :=
  .ite (fun _ _ _ => Iff.rfl) (.next_comm fun _ _ _ => rfl) (.refused _)

theorem stopPreparation_clockBlind : ClockBlind stopPreparation :=
  .andThen (.comp (loadSR_clockBlind _) fun _ _ _ => rfl)
    (.andThen (commandShift_clockBlind 1) (.next_comm fun _ _ _ => rfl))

theorem loadAddress_clockBlind : ClockBlind loadAddress :=
  .andThen (loadSR_clockBlind _) (.next_comm fun _ _ _ => rfl)

theorem loadControl_clockBlind : ClockBlind loadControl :=
  .andThen (loadSR_held_clockBlind State.ctrl fun _ _ _ => rfl) (.next_comm fun _ _ _ => rfl)

theorem loadPayload_clockBlind : ClockBlind loadPayload :=
  .ite (fun _ _ _ => Iff.rfl)
    (.andThen (loadSR_held_clockBlind (fun s => Memory.read s.mem s.ptr.toNat) fun _ _ _ => rfl)
      (.next_comm fun _ _ _ => rfl))
    (.refused _)

theorem loadByPhase_clockBlind : ClockBlind loadByPhase :=
  .ite (fun _ _ _ => Iff.rfl) loadAddress_clockBlind
    (.ite (fun _ _ _ => Iff.rfl) loadControl_clockBlind
      (.ite (fun _ _ _ => Iff.rfl) loadPayload_clockBlind (.fault _)))

theorem byteTransfer_clockBlind : ClockBlind byteTransfer :=
  .andThen (.comp loadByPhase_clockBlind fun _ _ _ => rfl)
    (.andThen (commandShift_clockBlind 8) (.next_comm fun _ _ _ => rfl))

theorem nextTransfer_clockBlind : ClockBlind nextTransfer :=
  .ite (fun _ _ _ => Iff.rfl) stopPreparation_clockBlind
    byteTransfer_clockBlind

theorem execIrqRxtx_clockBlind : ClockBlind execIrqRxtx :=
  .ite (fun _ _ _ => Iff.rfl) (.comp stopPreparation_clockBlind fun _ _ _ => rfl)
    (.comp nextTransfer_clockBlind fun _ _ _ => rfl)

theorem execInit_clockBlind (div : ClkDiv) (src : ClkSrc) : ClockBlind (execInit div src) :=
  .ite (fun _ _ _ => Iff.rfl) (.refused _) (.next fun _ _ _ => ⟨div, src, rfl⟩)

theorem execSubmit_clockBlind (ctrl : Byte) (ptr : Addr) (len : Len) (rpt : Bool) (wmask : WakeMask) :
    ClockBlind (execSubmit ctrl ptr len rpt wmask) := by
  intro s d c
  have sameRefusal : submitRefusal ctrl ptr len rpt (setClock d c s) = submitRefusal ctrl ptr len rpt s := rfl
  unfold execSubmit
  rw [sameRefusal]
  cases submitRefusal ctrl ptr len rpt s with
  | some r => exact .refused r
  | none =>
    have recorded : ClockBlind fun s => .next (recordTransaction ctrl ptr len rpt wmask s) :=
      .next_comm fun _ _ _ => rfl
    have held : ClockBlind fun s => .next s := .next_comm fun _ _ _ => rfl
    exact ClockBlind.ite (p := fun s => isIdle s = true) (fun _ _ _ => Iff.rfl) recorded held s d c

theorem wakeHost_setClock (d : ClkDiv) (c : ClkSrc) (s : State) :
    wakeHost (setClock d c s) = setClock d c (wakeHost s) := by
  by_cases h : s.wmask = 0#Config.wakeW
  · simp [wakeHost, h]
  · simp [wakeHost, h, setClock]

theorem execIrqStop_clockBlind : ClockBlind execIrqStop :=
  .next_comm fun s d c =>
    wakeHost_setClock d c (enterState StateCode.idle (setOE false (drawSR (appendWire .stop (takeInterrupt s)))))

theorem hostWrite_clockBlind (a : Addr) (b : Byte) : ClockBlind (hostWrite a b) :=
  .ite (fun _ _ _ => Iff.rfl) (.refused _)
    (.next_comm fun _ _ _ => rfl)

theorem inject_clockBlind : ClockBlind inject :=
  .ite (fun _ _ _ => Iff.rfl) (.next_comm fun _ _ _ => rfl) (.refused _)

/-- Every operation. `INIT` and `configurePeripheral` alone write the clock parameters, and no operation reads them. -/
theorem exec_clockBlind (i : Instr) : ClockBlind (exec i) := by
  cases i with
  | init div src => exact execInit_clockBlind div src
  | configurePeripheral div src => exact .next fun _ _ _ => ⟨div, src, rfl⟩
  | submit ctrl ptr len rpt wmask => exact execSubmit_clockBlind ctrl ptr len rpt wmask
  | irqStart => exact .comp (g := fun s => pulseStartLatch (takeInterrupt s)) nextTransfer_clockBlind fun _ _ _ => rfl
  | irqPrepack =>
    exact .andThen (.comp (commandShift_clockBlind 1) fun _ _ _ => rfl) (.next_comm fun _ _ _ => rfl)
  | irqRxtx => exact execIrqRxtx_clockBlind
  | irqPrepstop => exact .comp (g := takeInterrupt) stopPreparation_clockBlind fun _ _ _ => rfl
  | irqStop => exact execIrqStop_clockBlind
  | xferAddr => exact loadAddress_clockBlind
  | xferCtrl => exact loadControl_clockBlind
  | xferPayload => exact loadPayload_clockBlind
  | loadShiftRegister b => exact loadSR_clockBlind b
  | shiftBits n => exact commandShift_clockBlind n
  | prepareTransfer => exact nextTransfer_clockBlind
  | prepareStop => exact stopPreparation_clockBlind
  | isidle | irqIdle | readShiftRegister | setOutputEnable | assertStartLatch | raiseInterruptFlag | clearInterruptFlag
  | disableInterrupts | enableInterrupts | shiftTx8 | shiftRx1 | shiftTx1 => exact .next_comm fun _ _ _ => rfl

/-! ## The turns -/

theorem holds_setClock (i : Instr) (s : State) (d : ClkDiv) (c : ClkSrc) : holds i (setClock d c s) = holds i s := by
  cases i <;> rfl

theorem hostCommand_clockBlind (cmd : BitVec 2) (ports : Ports) (rest : List HostAct) :
    ClockBlind (hostCommand cmd ports rest) := by
  intro s d c
  unfold hostCommand
  cases decode { code := .host cmd, ports := ports } with
  | error e => exact ClockBlind.rejected e s d c
  | ok i =>
    have kept : ClockBlind fun s => .next s := .next_comm fun _ _ _ => rfl
    have ran : ClockBlind fun s => andThen (exec i s) fun t => .next { t with program := rest } :=
      .andThen (exec_clockBlind i) (.next_comm fun _ _ _ => rfl)
    exact ClockBlind.ite (p := fun s => holds i s = true) (fun s d c => by rw [holds_setClock]) kept ran s d c

theorem waitStep_clockBlind (mask : WakeMask) (rest : List HostAct) : ClockBlind (waitStep mask rest) := by
  have returns : ClockBlind fun s => .next { recordIdle s with program := rest } := .next_comm fun _ _ _ => rfl
  have sleeps : ClockBlind fun s => .next (sleepHost mask (recordIdle s)) := .next_comm fun _ _ _ => rfl
  have goesOn : ClockBlind fun s => .next { recordIdle s with program := .waitSleep mask :: rest } :=
    .next_comm fun _ _ _ => rfl
  exact .ite (fun _ _ _ => Iff.rfl) returns
    (.ite (fun _ _ _ => Iff.rfl) sleeps goesOn)

theorem hostAction_clockBlind (act : HostAct) (rest : List HostAct) : ClockBlind (hostAction act rest) := by
  cases act with
  | command cmd ports => exact hostCommand_clockBlind cmd ports rest
  | memWrite a b => exact .andThen (hostWrite_clockBlind a b) (.next_comm fun _ _ _ => rfl)
  | waitIdle mask => exact waitStep_clockBlind mask rest
  | sleep mask => exact .next_comm fun _ _ _ => rfl
  | waitSleep mask => exact .next_comm fun _ _ _ => rfl

theorem hostTurn_clockBlind : ClockBlind hostTurn := by
  refine .ite (fun _ _ _ => Iff.rfl) ?_ (.next_comm fun _ _ _ => rfl)
  intro s d c
  simp only [setClock_program]
  cases s.program with
  | nil => exact .next s d c
  | cons act rest => exact hostAction_clockBlind act rest s d c

theorem sequencerTurn_clockBlind : ClockBlind sequencerTurn := by
  refine .ite (fun _ _ _ => Iff.rfl) ?_ (.next_comm fun _ _ _ => rfl)
  intro s d c
  simp only [setClock_tstate]
  cases decode { code := .seq s.tstate, ports := .zero } with
  | error e => exact ClockBlind.rejected e s d c
  | ok i => exact exec_clockBlind i s d c

theorem peripheralTurn_clockBlind : ClockBlind peripheralTurn := by
  refine .ite (fun _ _ _ => Iff.rfl) ?_ (.next_comm fun _ _ _ => rfl)
  intro s d c
  have sameForm : shiftForm (setClock d c s) = shiftForm s := rfl
  simp only [sameForm]
  cases shiftForm s with
  | error e => exact ClockBlind.rejected e s d c
  | ok i => exact exec_clockBlind i s d c

theorem environmentTurn_clockBlind : ClockBlind environmentTurn := by
  intro s d c
  simp only [environmentTurn, setClock_injects]
  cases s.injects with
  | zero => exact .next s d c
  | succ n => exact ClockBlind.andThen inject_clockBlind (.next_comm fun _ _ _ => rfl) s d c

theorem agentTurn_clockBlind (a : Agent) : ClockBlind (agentTurn a) := by
  cases a with
  | host => exact hostTurn_clockBlind
  | sequencer => exact sequencerTurn_clockBlind
  | peripheral => exact peripheralTurn_clockBlind
  | environment => exact environmentTurn_clockBlind

theorem passTurn_setClock (s : State) (d : ClkDiv) (c : ClkSrc) :
    passTurn (setClock d c s) = setClock d c (passTurn s) := by
  cases h : s.sched <;> simp [passTurn, setClock, h]

theorem runDirect_clockBlind (x : OpWord) : ClockBlind (runDirect x) := by
  intro s d c
  unfold runDirect
  cases decode x with
  | error e => exact ClockBlind.rejected e s d c
  | ok i => exact exec_clockBlind i { s with direct := none } d c

theorem step_clockBlind : ClockBlind step := by
  intro s d c
  cases hd : s.direct with
  | some x =>
    rw [step_of_direct hd, step_of_direct (s := setClock d c s) hd]
    exact runDirect_clockBlind x s d c
  | none =>
    rw [step_of_turn hd, step_of_turn (s := setClock d c s) hd, passTurn_setClock]
    exact agentTurn_clockBlind (turn s) (passTurn s) d c

/-- Settles O49: a step is blind to the clock parameters, so the two outcomes are alike. -/
theorem clockParametersInfluenceNothing : Obligations.ClockParametersInfluenceNothing := by
  intro s d c
  have same := step_clockBlind s d c
  rw [setClock] at same
  generalize step { s with clkdiv := d, clksrc := c } = r', step s = r at same ⊢
  cases same <;> rfl

end Sys2Proof.Machine
end

section
/-! PROOFS. `SUBMIT` (40_host_operations R82): which operands it refuses, in the order of its pseudocode, and the payload
range it opens (20_memory R43). -/

namespace Sys2Proof.Machine

variable {s t : State}

theorem legalControlByte_iff {ctrl : Byte} : legalControlByte ctrl = true ↔ ctrl = 0x00#8 ∨ ctrl = 0x40#8 := by
  simp [legalControlByte]

theorem legalControlByte_eq_false {ctrl : Byte} :
    legalControlByte ctrl = false ↔ ctrl ≠ 0x00#8 ∧ ctrl ≠ 0x40#8 := by
  simp [legalControlByte]

theorem payloadWraps_iff {a l : Nat} {ptr : BitVec a} {len : BitVec l} {rpt : Bool} :
    payloadWraps ptr len rpt = true ↔ rpt = false ∧ 1 ≤ len.toNat ∧ 2 ^ a ≤ ptr.toNat + len.toNat - 1 := by
  simp [payloadWraps, and_assoc]

theorem payloadWraps_eq_false {a l : Nat} {ptr : BitVec a} {len : BitVec l} {rpt : Bool} :
    payloadWraps ptr len rpt = false ↔ rpt = true ∨ len.toNat = 0 ∨ ptr.toNat + len.toNat - 1 < 2 ^ a := by
  rw [← Bool.not_eq_true, payloadWraps_iff, not_and_or, not_and_or, Bool.not_eq_false, Nat.not_le, Nat.not_le,
    Nat.lt_one_iff]

/-! ## The refusals -/

/-- The three refusals exclude one another, each asked only where the ones before it are passed. -/
theorem submitRefusal_eq_some {ctrl : Byte} {ptr : Addr} {len : Len} {rpt : Bool} {r : Refusal} :
    submitRefusal ctrl ptr len rpt s = some r ↔
      (s.cfg = false ∧ r = .submitBeforeInit) ∨
      (s.cfg = true ∧ legalControlByte ctrl = false ∧ r = .reservedControlByte) ∨
      (s.cfg = true ∧ legalControlByte ctrl = true ∧ payloadWraps ptr len rpt = true ∧ r = .payloadWraps) := by
  unfold submitRefusal
  cases s.cfg <;> cases legalControlByte ctrl <;> cases payloadWraps ptr len rpt <;> simp [eq_comm]

/-- `SUBMIT` has no refusal but those of its operands. -/
theorem execSubmit_eq_refused {ctrl : Byte} {ptr : Addr} {len : Len} {rpt : Bool} {wmask : WakeMask} {r : Refusal} :
    execSubmit ctrl ptr len rpt wmask s = .refused r ↔ submitRefusal ctrl ptr len rpt s = some r := by
  unfold execSubmit
  cases submitRefusal ctrl ptr len rpt s <;> cases isIdle s <;> simp

/-- Settles O18: `SUBMIT` passes on the refusal of its operands, whose tests are those of R66 and R43. -/
theorem submitIsRefusedExactlyWhen : Obligations.SubmitIsRefusedExactlyWhen := by
  intro s ctrl ptr len rpt wmask r
  refine (execSubmit_eq_refused (s := s)).trans ?_
  rw [submitRefusal_eq_some, legalControlByte_eq_false, legalControlByte_iff, payloadWraps_iff]
  simp only [and_assoc]

/-! ## The payload range -/

theorem inPayloadRange_iff {a : Nat} :
    inPayloadRange s a = true ↔ s.rangeBase ≤ a ∧ a < s.rangeBase + s.rangeCount := by
  simp [inPayloadRange]

/-- Settles O17: an accepted `SUBMIT` records base and count of the range, and one whose range wraps is not accepted. -/
theorem submitOpensThePayloadRange : Obligations.SubmitOpensThePayloadRange := by
  intro s t ctrl ptr len rpt wmask idle h a
  obtain ⟨accepted, ht⟩ := execSubmit_eq_next.1 h
  rw [if_pos (isIdle_iff.2 idle)] at ht
  subst ht
  obtain ⟨_, _, fits⟩ := submitRefusal_eq_none.1 accepted
  have inside := payloadWraps_eq_false.1 fits
  have range : inPayloadRange (recordTransaction ctrl ptr len rpt wmask s) a = true ↔
      ptr.toNat ≤ a ∧ a < ptr.toNat + payloadCount len rpt := inPayloadRange_iff
  have hptr := ptr.isLt
  rw [range, payloadCount]
  cases rpt
  · simp only [Bool.false_eq_true, if_false, false_or] at inside ⊢
    split
    · rw [iff_false]; omega
    · omega
  · simp only [if_true]
    split
    · rw [iff_false]; omega
    · omega

end Sys2Proof.Machine
end

section
/-! PROOFS. Host memory (20_memory R40 to R43): no operation of the block writes it, a step changes it by a host write at
most, and what a host write does. Before them, what a turn takes off the schedule. -/

namespace Sys2Proof.Machine

variable {s t : State}

/-! ## Taking the turn -/

theorem passTurn_of_sched {a : Agent} {later : List Agent} (h : s.sched = a :: later) :
    passTurn s = { s with sched := later } := by
  simp [passTurn, h]

theorem step_of_sched {a : Agent} {later : List Agent} (hd : s.direct = none) (hs : s.sched = a :: later) :
    step s = agentTurn a { s with sched := later } := by
  rw [step_of_turn hd, passTurn_of_sched hs, turn, hs]

/-- Settles O5: the turn is the schedule's head and passing it leaves the tail; with no schedule a free value is drawn. -/
theorem turnUsesUpOneScheduleEntry : Obligations.TurnUsesUpOneScheduleEntry := by
  refine ⟨fun s => step_of_turn, fun s => ?_, fun s => ?_⟩
  · cases h : s.sched <;> simp [turn, h]
  · cases h : s.sched with
    | nil => simp [passTurn, h]
    | cons a later => simp [passTurn_of_sched h]

/-- A running host takes the next action of its program. -/
theorem hostTurn_of_action {act : HostAct} {rest : List HostAct} (running : s.sleepcond = 0#_)
    (hp : s.program = act :: rest) : hostTurn s = hostAction act rest s := by
  simp [hostTurn, hostRunning_iff.2 running, hp]

/-! ## The operations of the block -/

/-- What the block finds around it and no operation of it writes: host memory and its map, the inputs from outside, the
ports an operation and a turn are taken from, and the switch; every other element at its value of reset. -/
def surroundings (s : State) : State :=
  { State.reset with
    mem := s.mem, notPlain := s.notPlain, program := s.program, injects := s.injects, answers := s.answers
    direct := s.direct, sched := s.sched, zeroLenCheck := s.zeroLenCheck }

theorem stopPreparation_surroundings (h : stopPreparation s = .next t) : surroundings t = surroundings s := by
  obtain ⟨_, rfl⟩ := stopPreparation_eq_next.1 h
  rfl

theorem nextTransfer_surroundings (h : nextTransfer s = .next t) : surroundings t = surroundings s := by
  obtain ⟨_, ⟨_, rfl⟩ | ⟨_, _, rfl⟩ | ⟨_, _, rfl⟩ | ⟨_, _, _, rfl⟩⟩ := nextTransfer_cases h <;> rfl

theorem wakeHost_surroundings : surroundings (wakeHost s) = surroundings s := by
  simp [surroundings]

/-- Each operation answers a state given by its fields, or is one of the shared routines above. -/
theorem exec_surroundings {i : Instr} (h : exec i s = .next t) : surroundings t = surroundings s := by
  cases i with
  | init div src =>
    obtain ⟨_, rfl⟩ := execInit_eq_next.1 h
    rfl
  | submit ctrl ptr len rpt wmask =>
    obtain ⟨_, ht⟩ := execSubmit_eq_next.1 h
    split at ht <;> subst ht <;> rfl
  | irqStart => exact nextTransfer_surroundings (s := pulseStartLatch (takeInterrupt s)) h
  | irqRxtx =>
    obtain ⟨_, _, rfl⟩ | ⟨_, transfer⟩ := execIrqRxtx_cases h
    · rfl
    · exact nextTransfer_surroundings (s := takeInterrupt s) transfer
  | irqPrepstop => exact stopPreparation_surroundings (s := takeInterrupt s) h
  | irqStop =>
    obtain rfl := next_eq_next.1 h
    exact wakeHost_surroundings
  | prepareTransfer => exact nextTransfer_surroundings h
  | prepareStop => exact stopPreparation_surroundings h
  | xferAddr =>
    obtain ⟨_, rfl⟩ := loadAddress_eq_next.1 h
    rfl
  | xferCtrl =>
    obtain ⟨_, rfl⟩ := loadControl_eq_next.1 h
    rfl
  | xferPayload =>
    obtain ⟨_, _, rfl⟩ := loadPayload_eq_next.1 h
    rfl
  | loadShiftRegister b =>
    obtain ⟨_, rfl⟩ := loadSR_eq_next.1 h
    rfl
  | shiftBits n =>
    obtain ⟨_, rfl⟩ := commandShift_eq_next.1 h
    rfl
  | isidle | irqIdle | irqPrepack | readShiftRegister | setOutputEnable | assertStartLatch | raiseInterruptFlag
  | clearInterruptFlag | configurePeripheral | disableInterrupts | enableInterrupts | shiftTx8 | shiftRx1 | shiftTx1 =>
    obtain rfl := next_eq_next.1 h
    rfl

theorem exec_mem {i : Instr} (h : exec i s = .next t) : t.mem = s.mem :=
  congrArg (·.mem) (exec_surroundings h)

/-- Settles O39: memory is among the surroundings that no operation writes. -/
theorem noOperationWritesMemory : Obligations.NoOperationWritesMemory := by
  intro i s t h a
  rw [exec_mem h]

/-! ## A step -/

/-- What a turn or a step can do to memory: nothing, or one host write (20_memory R40). -/
def WritesAtMostOneByte (m m' : Memory) : Prop := m' = m ∨ ∃ a b, m' = Memory.write m a b

theorem hostTurn_mem (h : hostTurn s = .next t) : WritesAtMostOneByte s.mem t.mem := by
  obtain rfl | ⟨u, prog, rfl, hu⟩ := hostTurn_cases h
  · exact .inl rfl
  · obtain hu | ⟨d, c, hu⟩ | ⟨c, p, l, r, m, hu⟩ | ⟨a, b, hu⟩ | ⟨m, rfl⟩ | ⟨m, rfl⟩ := hu
    · exact .inl (exec_mem (t := u) (i := .isidle) hu)
    · exact .inl (exec_mem (t := u) (i := .init d c) hu)
    · exact .inl (exec_mem (t := u) (i := .submit c p l r m) hu)
    · obtain ⟨_, rfl⟩ := hostWrite_eq_next.1 hu
      exact .inr ⟨a.toNat, b, rfl⟩
    · exact .inl rfl
    · exact .inl rfl

theorem sequencerTurn_mem (h : sequencerTurn s = .next t) : t.mem = s.mem := by
  obtain ⟨_, _, _, hi⟩ | ⟨_, rfl⟩ := sequencerTurn_cases h
  · exact exec_mem hi
  · rfl

theorem peripheralTurn_mem (h : peripheralTurn s = .next t) : t.mem = s.mem := by
  obtain ⟨_, ⟨_, _, hi⟩ | ⟨_, _, hi⟩ | ⟨_, _, hi⟩⟩ | ⟨_, rfl⟩ := peripheralTurn_cases h
  · exact exec_mem (i := .shiftTx8) hi
  · exact exec_mem (i := .shiftRx1) hi
  · exact exec_mem (i := .shiftTx1) hi
  · rfl

theorem environmentTurn_mem (h : environmentTurn s = .next t) : t.mem = s.mem := by
  obtain ⟨_, rfl⟩ | ⟨_, _, _, _, rfl⟩ := environmentTurn_cases h <;> rfl

theorem agentTurn_mem {a : Agent} (h : agentTurn a s = .next t) : WritesAtMostOneByte s.mem t.mem := by
  cases a with
  | host => exact hostTurn_mem h
  | sequencer => exact .inl (sequencerTurn_mem h)
  | peripheral => exact .inl (peripheralTurn_mem h)
  | environment => exact .inl (environmentTurn_mem h)

theorem step_mem (h : step s = .next t) : WritesAtMostOneByte s.mem t.mem := by
  cases hd : s.direct with
  | some x =>
    rw [step_of_direct hd] at h
    obtain ⟨i, _, hi⟩ := runDirect_eq_next.1 h
    exact .inl (exec_mem (s := { s with direct := none }) hi)
  | none =>
    rw [step_of_turn hd] at h
    simpa using agentTurn_mem h

/-- Settles O55: a step leaves memory alone or makes one host write, and a write keeps the form. -/
theorem stepsKeepMemoryCanonical : Obligations.StepsKeepMemoryCanonical := by
  intro s t wf h
  obtain same | ⟨a, b, written⟩ := step_mem h
  · rwa [same]
  · rw [written]
    exact Memory.wf_write wf a b

/-- Settles O45: the host's turn is the write, which the range and `TSTATE` refuse or let through. -/
theorem hostWriteRespectsThePayload : Obligations.HostWriteRespectsThePayload := by
  intro s a b rest ⟨hd, ha⟩ running hp
  have turned : step s = andThen (hostWrite a b (passTurn s)) fun t => .next { t with program := rest } := by
    rw [step_of_turn hd, ha]
    exact hostTurn_of_action (s := passTurn s) (by simpa using running) (by simpa using hp)
  rw [turned]
  refine ⟨fun busy above below => ?refused, fun outside => ?written⟩
  case refused =>
    have inside : inPayloadRange (passTurn s) a.toNat = true := inPayloadRange_iff.2 (by simpa using ⟨above, below⟩)
    have notIdle : isIdle (passTurn s) = false := by
      rw [← Bool.not_eq_true, isIdle_iff, passTurn_tstate]
      exact busy
    simp [hostWrite, inside, notIdle]
  case written =>
    have taken : isIdle (passTurn s) = true ∨ inPayloadRange (passTurn s) a.toNat = false := by
      rw [isIdle_iff, ← Bool.not_eq_true, inPayloadRange_iff, passTurn_tstate, passTurn_rangeBase, passTurn_rangeCount]
      exact outside.imp id (by omega)
    rw [hostWrite_eq_next.2 ⟨taken, rfl⟩, andThen_next, passTurn_mem]
    exact ⟨_, rfl, Memory.read_write_same _ _ _, fun x hx => Memory.read_write_other b hx⟩

end Sys2Proof.Machine
end

section
/-! PROOFS. The bytes of one transaction's frame (30_encoding R68, 41_sequencer_steps R106): those `prepareTransfer` still
has to load, and what it makes of them. -/

namespace Sys2Proof.Safety

open Sys2Proof.Machine

variable {s t u v : State}

/-! ## The bytes still to load -/

/-- The addresses the payload bytes still to load are read from (41_sequencer_steps R106). -/
def payloadLeft (u : State) : List Nat := payloadAddresses u.ptr u.rpt u.len.toNat

/-- The bytes `prepareTransfer` still has to load, by `PHASE`, with the payload read from `m` (41_sequencer_steps R97). -/
def bytesAhead (m : Memory) (u : State) : List Byte :=
  if lengthStops u.zeroLenCheck u then []
  else if u.phase = PhaseCode.sendAddress then addrByte :: u.ctrl :: (payloadLeft u).map (Memory.read m)
  else if u.phase = PhaseCode.sendControl then u.ctrl :: (payloadLeft u).map (Memory.read m)
  else (payloadLeft u).map (Memory.read m)

theorem payloadLeft_of_len_zero (h : u.len = 0#_) : payloadLeft u = [] := by
  simp [payloadLeft, h, payloadAddresses]

theorem payloadLeft_of_len (h : u.len ≠ 0#_) :
    payloadLeft u = u.ptr.toNat :: payloadAddresses (nextCursor u.ptr u.rpt) u.rpt (u.len - 1#_).toNat := by
  obtain ⟨n, hn⟩ := Nat.exists_eq_succ_of_ne_zero (len_ne_zero.1 h)
  rw [len_sub_one h, payloadLeft, hn]
  rfl

theorem bytesAhead_of_lengthStops {m : Memory} (h : lengthStops u.zeroLenCheck u = true) : bytesAhead m u = [] :=
  if_pos h

theorem bytesAhead_of_sendAddress {m : Memory} (h : lengthStops u.zeroLenCheck u = false)
    (hp : u.phase = PhaseCode.sendAddress) :
    bytesAhead m u = addrByte :: u.ctrl :: (payloadLeft u).map (Memory.read m) := by
  simp [bytesAhead, h, hp]

theorem bytesAhead_of_sendControl {m : Memory} (h : lengthStops u.zeroLenCheck u = false)
    (hp : u.phase = PhaseCode.sendControl) :
    bytesAhead m u = u.ctrl :: (payloadLeft u).map (Memory.read m) := by
  simp [bytesAhead, h, hp, PhaseCode.sendControl, PhaseCode.sendAddress]

/-- In the phase `SendPayload` the bytes ahead are the payload left, none where the length stops the transfer. -/
theorem bytesAhead_of_sendPayload {m : Memory} (hp : u.phase = PhaseCode.sendPayload) :
    bytesAhead m u = (payloadLeft u).map (Memory.read m) := by
  cases h : lengthStops u.zeroLenCheck u with
  | true =>
    obtain ⟨hl, _⟩ := lengthStops_iff.1 h
    rw [bytesAhead_of_lengthStops h, payloadLeft_of_len_zero hl, List.map_nil]
  | false => simp [bytesAhead, h, hp, PhaseCode.sendPayload, PhaseCode.sendControl, PhaseCode.sendAddress]

/-- The length test gives one answer in the phases `SendAddress` and `SendControl`. -/
theorem lengthStops_of_address_sent (h : lengthStops u.zeroLenCheck u = false) (hz : v.zeroLenCheck = u.zeroLenCheck)
    (hl : v.len = u.len) (hp : v.phase = PhaseCode.sendControl) : lengthStops v.zeroLenCheck v = false := by
  rw [lengthStops_eq_false] at h ⊢
  rintro ⟨zero, setting | payload⟩
  · exact h ⟨hl ▸ zero, .inl (hz ▸ setting)⟩
  · exact absurd (hp.symm.trans payload) (by decide)

/-- What `SUBMIT` leaves ahead is the frame (30_encoding R68). -/
theorem bytesAhead_of_submitted (hp : s.phase = PhaseCode.sendAddress) : bytesAhead s.mem s = frameBytes s := by
  have payloadNot : s.phase ≠ PhaseCode.sendPayload := by rw [hp]; decide
  have stops : lengthStops s.zeroLenCheck s = true ↔ s.len.toNat = 0 ∧ s.zeroLenCheck = .everyCall := by
    rw [lengthStops_iff, or_iff_left payloadNot, not_iff_not.1 len_ne_zero]
  cases h : lengthStops s.zeroLenCheck s with
  | true => rw [bytesAhead_of_lengthStops h, frameBytes, if_pos (stops.1 h)]
  | false =>
    rw [bytesAhead_of_sendAddress h hp, frameBytes, if_neg (by rw [← stops, h]; decide)]
    rfl

/-- `prepareTransfer` with no shift in flight takes the first of the bytes ahead, or prepares the stop if there is none. -/
theorem nextTransfer_loads {m : Memory} (plain : ∀ a ∈ payloadLeft v, a ∉ v.notPlain)
    (reads : ∀ a ∈ payloadLeft v, Memory.read v.mem a = Memory.read m a) (count : v.cnt = 0)
    (phase : v.phase = PhaseCode.sendAddress ∨ phaseLoaded v) :
    ∃ t, nextTransfer v = .next t ∧
      ((bytesAhead m v = [] ∧ t = { v with oe := true, sr := 0x00#8, cnt := 1, tstate := StateCode.stop }) ∨
        ∃ b p q l,
          t = { v with oe := true, sr := b, phase := p, ptr := q, len := l, cnt := 8,
                       tstate := StateCode.prepareAckNack } ∧
          bytesAhead m v = b :: bytesAhead m t ∧ phaseLoaded t ∧ payloadLeft t ⊆ payloadLeft v) := by
  obtain ⟨t, ht⟩ | ⟨_, notPlain, _, hl⟩ := nextTransfer_answers count phase
  · refine ⟨t, ht, ?_⟩
    obtain ⟨_, ⟨hs, rfl⟩ | ⟨hs, hp, rfl⟩ | ⟨hs, hp, rfl⟩ | ⟨hl, hp, _, rfl⟩⟩ := nextTransfer_cases ht
    · exact .inl ⟨bytesAhead_of_lengthStops hs, rfl⟩
    · refine .inr ⟨_, _, _, _, rfl, ?_, .inl rfl, List.Subset.refl _⟩
      refine (bytesAhead_of_sendAddress hs hp).trans (congrArg _ (Eq.symm ?_))
      exact bytesAhead_of_sendControl (lengthStops_of_address_sent hs rfl rfl rfl) rfl
    · refine .inr ⟨_, _, _, _, rfl, ?_, .inr rfl, List.Subset.refl _⟩
      rw [bytesAhead_of_sendControl hs hp, bytesAhead_of_sendPayload rfl]
      rfl
    · have left := payloadLeft_of_len hl
      refine .inr ⟨_, _, _, _, rfl, ?_, .inr hp, by rw [left]; exact List.subset_cons_self _ _⟩
      rw [bytesAhead_of_sendPayload hp, bytesAhead_of_sendPayload (by exact hp), left, List.map_cons,
        reads _ (by rw [left]; exact List.mem_cons_self)]
      rfl
  · exact absurd notPlain (plain _ (by rw [payloadLeft_of_len hl]; exact List.mem_cons_self))

end Sys2Proof.Safety
end

section
/-! PROOFS. Where a running transaction stands and what is still to come from there (41_sequencer_steps R105): `Stage`
names it, and the turn of the agent that is due takes it to the next stage. `OnCourse` accounts for every event and every
slot: what its first two equations equate to the submitted frame stays the same along the whole run. -/

namespace Sys2Proof.Safety

open Sys2Proof.Machine

variable {s t u v : State}

/-! ## What is still to come -/

/-- From ACK slot `slot` on, `bytes` with their ACK bits bring the trace `w` and the slot count to what the frame of the
submitted transaction `s` asks for before its `STOP`; `n` engine turns stand before the last one, with `spent` of the first
byte's four (or of the stop's) already taken (41_sequencer_steps R105). -/
structure OnCourse (s : State) (slot : Nat) (w : List WireEvent) (bytes : List Byte) (spent n : Nat) : Prop where
  trace : w ++ frameEvents s bytes slot = s.w ++ [.start] ++ frameEvents s (frameBytes s) s.nackslot
  slots : slot + frameSlots s bytes slot = s.nackslot + frameSlots s (frameBytes s) s.nackslot
  turns : n + spent = 4 * frameSlots s bytes slot + 2

theorem OnCourse.spend {slot spent n : Nat} {w : List WireEvent} {bytes : List Byte}
    (c : OnCourse s slot w bytes spent (n + 1)) : OnCourse s slot w bytes (spent + 1) n :=
  ⟨c.trace, c.slots, by have := c.turns; omega⟩

theorem frameEvents_of_nack {slot : Nat} (h : slaveAnswer s slot = true) (b : Byte) (bytes : List Byte) :
    frameEvents s (b :: bytes) slot = [.byte b, .ackbit true] := by
  simp [frameEvents, h]

theorem frameEvents_of_ack {slot : Nat} (h : slaveAnswer s slot = false) (b : Byte) (bytes : List Byte) :
    frameEvents s (b :: bytes) slot = .byte b :: .ackbit false :: frameEvents s bytes (slot + 1) := by
  simp [frameEvents, h]

theorem frameSlots_of_nack {slot : Nat} (h : slaveAnswer s slot = true) (b : Byte) (bytes : List Byte) :
    frameSlots s (b :: bytes) slot = 1 := if_pos h

theorem frameSlots_of_ack {slot : Nat} (h : slaveAnswer s slot = false) (b : Byte) (bytes : List Byte) :
    frameSlots s (b :: bytes) slot = frameSlots s bytes (slot + 1) + 1 := by
  simp [frameSlots, h]

theorem frameSlots_cons_pos (b : Byte) (bytes : List Byte) (slot : Nat) : 1 ≤ frameSlots s (b :: bytes) slot := by
  cases h : slaveAnswer s slot
  · rw [frameSlots_of_ack h]
    omega
  · rw [frameSlots_of_nack h]

/-- The slave's answer ends a byte's four turns: a NACK ends the frame's bytes, an ACK goes on to the next. -/
theorem OnCourse.answer {slot n : Nat} {w : List WireEvent} {b : Byte} {bytes : List Byte}
    (course : OnCourse s slot w (b :: bytes) 4 n) :
    OnCourse s (slot + 1) (w ++ [.byte b] ++ [.ackbit (slaveAnswer s slot)])
      (if slaveAnswer s slot then [] else bytes) 0 n := by
  obtain ⟨trace, slots, turns⟩ := course
  cases h : slaveAnswer s slot with
  | true =>
    rw [frameEvents_of_nack h] at trace
    rw [frameSlots_of_nack h] at slots turns
    rw [if_pos rfl]
    exact ⟨by simpa [frameEvents] using trace, slots, by rw [frameSlots]; omega⟩
  | false =>
    rw [frameEvents_of_ack h] at trace
    rw [frameSlots_of_ack h] at slots turns
    rw [if_neg Bool.false_ne_true]
    exact ⟨by simpa using trace, by omega, by omega⟩

/-- Where the running transaction that `s` submitted stands in `u`, with `n` engine turns before the last one: the control
state of 10_state R36, the agent that is due, and what is still to come. -/
inductive Stage (s u : State) (n : Nat) : Agent → Prop
  /-- `SUBMIT` has been taken: `IRQ_START` is due. -/
  | started (code : u.tstate = StateCode.start) (phase : u.phase = PhaseCode.sendAddress) (flag : pending u)
      (course : OnCourse s u.nackslot (u.w ++ [.start]) (bytesAhead s.mem u) 0 n) : Stage s u n .sequencer
  /-- A byte is loaded: `SHIFT_TX8` is due. -/
  | loaded (code : u.tstate = StateCode.prepareAckNack) (phase : phaseLoaded u) (shift : shifting 8 true u)
      (course : OnCourse s u.nackslot u.w (u.sr :: bytesAhead s.mem u) 1 n) : Stage s u n .peripheral
  /-- The byte is out: `IRQ_PREPACK` is due. -/
  | sent (code : u.tstate = StateCode.prepareAckNack) (phase : phaseLoaded u) (flag : pending u)
      {w : List WireEvent} {b : Byte} (out : u.w = w ++ [.byte b])
      (course : OnCourse s u.nackslot w (b :: bytesAhead s.mem u) 2 n) : Stage s u n .sequencer
  /-- The line is released: `SHIFT_RX1` is due. -/
  | listening (code : u.tstate = StateCode.handleRxTx) (phase : phaseLoaded u) (shift : shifting 1 false u)
      {w : List WireEvent} {b : Byte} (out : u.w = w ++ [.byte b])
      (course : OnCourse s u.nackslot w (b :: bytesAhead s.mem u) 3 n) : Stage s u n .peripheral
  /-- The slave has answered: `IRQ_RXTX` is due. -/
  | answered (code : u.tstate = StateCode.handleRxTx) (phase : phaseLoaded u) (flag : pending u)
      (course : OnCourse s u.nackslot u.w (if nackBit u.sr then [] else bytesAhead s.mem u) 0 n) :
      Stage s u n .sequencer
  /-- The stop is prepared: `SHIFT_TX1` is due. -/
  | stopping (code : u.tstate = StateCode.stop) (shift : shifting 1 true u)
      (course : OnCourse s u.nackslot u.w [] 1 n) : Stage s u n .peripheral
  /-- The stop bit is out: `IRQ_STOP`, the last turn, is due. -/
  | stopSent (code : u.tstate = StateCode.stop) (flag : pending u)
      (course : OnCourse s u.nackslot u.w [] 2 n) : Stage s u n .sequencer

/-- A transaction just submitted, with what it needs to run: plain memory under its payload (20_memory R42). -/
structure Submitted (s : State) : Prop where
  nothingDirect : s.direct = none
  enabled : s.gie = true
  configured : s.cfg = true
  plain : ∀ a ∈ payloadLeft s, a ∉ s.notPlain

/-- Four turns for each byte and two for the stop stand before the last one (41_sequencer_steps R105). -/
theorem Stage.of_submitted {n : Nat} (code : s.tstate = StateCode.start) (phase : s.phase = PhaseCode.sendAddress)
    (flag : pending s) (turns : n = 4 * frameSlots s (frameBytes s) s.nackslot + 2) : Stage s s n .sequencer :=
  .started code phase flag (by rw [bytesAhead_of_submitted phase]; exact ⟨rfl, rfl, turns⟩)

/-- What the host's own elements and the schedule hold says nothing of the stage. -/
theorem Stage.outside {n : Nat} {due : Agent} (stage : Stage s u n due) (mem : Memory) (cond : WakeMask) (idle : Bool)
    (program : List HostAct) (sched : List Agent) :
    Stage s { u with mem := mem, sleepcond := cond, idleOut := idle, program := program, sched := sched } n due := by
  cases stage with
  | started code phase flag course => exact .started code phase flag course
  | loaded code phase shift course => exact .loaded code phase shift course
  | sent code phase flag out course => exact .sent code phase flag out course
  | listening code phase shift out course => exact .listening code phase shift out course
  | answered code phase flag course => exact .answered code phase flag course
  | stopping code shift course => exact .stopping code shift course
  | stopSent code flag course => exact .stopSent code flag course

theorem Stage.busy {n : Nat} {due : Agent} (stage : Stage s u n due) : isIdle u = false := by
  rw [← Bool.not_eq_true, isIdle_iff]
  cases stage with
  | started code | loaded code | sent code | listening code | answered code | stopping code | stopSent code =>
    rw [code]
    decide

/-- With no engine turn before it, the last one is `IRQ_STOP`. -/
theorem Stage.last {due : Agent} (stage : Stage s u 0 due) :
    u.tstate = StateCode.stop ∧ pending u ∧ OnCourse s u.nackslot u.w [] 2 0 := by
  cases stage with
  | stopSent code flag course => exact ⟨code, flag, course⟩
  | @sent _ _ _ w b _ course =>
    have turns := course.turns
    have pos := frameSlots_cons_pos (s := s) b (bytesAhead s.mem u) u.nackslot
    omega
  | started _ _ _ course | loaded _ _ _ course | listening _ _ _ _ course | answered _ _ _ course
  | stopping _ _ course =>
    have turns := course.turns
    omega

/-! ## The turn of the agent that is due -/

/-- A state without what an engine turn before the last one writes. -/
def beside (u : State) : State :=
  { u with
    tstate := 0#8, phase := 0#8, ptr := 0#_, len := 0#_, sr := 0#8, cnt := 0, oe := false, ge := false, ifg := false
    w := [], nackslot := 0, draws := 0 }

/-- A state without what any turn before the last one writes. -/
def constants (u : State) : State :=
  { beside u with sleepcond := 0#_, mem := [], idleOut := false, program := [], sched := [] }

/-- `u` comes after `s` in the run of one transaction: nothing writes the constants, and the payload of `s` reads as
before, where the cursor still is (20_memory R43). -/
structure Underway (s u : State) : Prop where
  constant : constants u = constants s
  reads : ∀ a ∈ payloadLeft s, Memory.read u.mem a = Memory.read s.mem a
  cursor : payloadLeft u ⊆ payloadLeft s

theorem Underway.refl (s : State) : Underway s s := ⟨rfl, fun _ _ => rfl, List.Subset.refl _⟩

theorem Underway.wmask (way : Underway s u) : u.wmask = s.wmask := (congrArg (·.wmask) way.constant :)

theorem Underway.k (way : Underway s u) : u.k = s.k := (congrArg (·.k) way.constant :)

theorem Underway.notPlain (way : Underway s u) : u.notPlain = s.notPlain := (congrArg (·.notPlain) way.constant :)

theorem Underway.injects (way : Underway s u) : u.injects = s.injects := (congrArg (·.injects) way.constant :)

theorem Underway.slaveAnswer (way : Underway s u) (slot : Nat) :
    Machine.slaveAnswer u slot = Machine.slaveAnswer s slot :=
  (congrArg (Machine.slaveAnswer · slot) way.constant :)

theorem Underway.inPayloadRange (way : Underway s u) (a : Nat) :
    Machine.inPayloadRange u a = Machine.inPayloadRange s a :=
  (congrArg (Machine.inPayloadRange · a) way.constant :)

theorem Underway.submitted (way : Underway s u) (sub : Submitted s) : Submitted u where
  nothingDirect := (congrArg (·.direct) way.constant :).trans sub.nothingDirect
  enabled := (congrArg (·.gie) way.constant :).trans sub.enabled
  configured := (congrArg (·.cfg) way.constant :).trans sub.configured
  plain a ha := by
    rw [way.notPlain]
    exact sub.plain a (way.cursor ha)

/-- What an engine turn before the last one makes of `u`. -/
structure EngineTurn (s u t : State) (n : Nat) (next : Agent) : Prop where
  beside : beside t = beside u
  cursor : payloadLeft t ⊆ payloadLeft u
  stage : Stage s t n next

/-- `prepareTransfer` at the first of a byte's turns loads it, or prepares the stop. -/
theorem EngineTurn.of_nextTransfer {n : Nat} (sub : Submitted s) (way : Underway s v) (flag : v.ifg = false)
    (count : v.cnt = 0) (phase : v.phase = PhaseCode.sendAddress ∨ phaseLoaded v)
    (course : OnCourse s v.nackslot v.w (bytesAhead s.mem v) 1 n) :
    ∃ t, nextTransfer v = .next t ∧ EngineTurn s v t n .peripheral := by
  obtain ⟨t, ht, ⟨none, rfl⟩ | ⟨b, p, q, l, rfl, more, loaded, cursor⟩⟩ :=
    nextTransfer_loads (way.submitted sub).plain (fun a ha => way.reads a (way.cursor ha)) count phase
  · rw [none] at course
    exact ⟨_, ht, rfl, List.Subset.refl _, .stopping rfl ⟨rfl, rfl, flag⟩ course⟩
  · rw [more] at course
    exact ⟨_, ht, rfl, cursor, .loaded rfl loaded ⟨rfl, rfl, flag⟩ course⟩

/-- The sequencer's turn, when it is due and not the last. -/
theorem Stage.sequencer_advances {n : Nat} (sub : Submitted s) (way : Underway s u)
    (stage : Stage s u (n + 1) .sequencer) :
    ∃ t, sequencerTurn u = .next t ∧ EngineTurn s u t n .peripheral := by
  have ⟨_, enabled, configured, _⟩ := way.submitted sub
  cases stage with
  | started code phase flag course =>
    rw [sequencerTurn_of_entry (i := .irqStart) flag.2 enabled configured (by rw [code]; rfl)]
    obtain ⟨t, ht, turned⟩ := EngineTurn.of_nextTransfer (v := pulseStartLatch (takeInterrupt u)) sub
      ⟨way.constant, way.reads, way.cursor⟩ rfl flag.1 (.inl phase) course.spend
    exact ⟨t, ht, turned.beside, turned.cursor, turned.stage⟩
  | sent code phase flag out course =>
    rw [sequencerTurn_of_entry (i := .irqPrepack) flag.2 enabled configured (by rw [code]; rfl)]
    exact ⟨_, rfl, rfl, List.Subset.refl _, .listening rfl phase ⟨rfl, rfl, rfl⟩ out course.spend⟩
  | answered code phase flag course =>
    rw [sequencerTurn_of_entry (i := .irqRxtx) flag.2 enabled configured (by rw [code]; rfl)]
    by_cases nack : nackBit u.sr = true
    · rw [if_pos nack] at course
      exact ⟨_, (if_pos nack).trans (stopPreparation_eq_next.2 ⟨flag.1, rfl⟩), rfl, List.Subset.refl _,
        .stopping rfl ⟨rfl, rfl, rfl⟩ course.spend⟩
    · rw [if_neg nack] at course
      obtain ⟨t, ht, turned⟩ := EngineTurn.of_nextTransfer (v := takeInterrupt u) sub
        ⟨way.constant, way.reads, way.cursor⟩ rfl flag.1 (.inr phase) course.spend
      exact ⟨t, (if_neg nack).trans ht, turned.beside, turned.cursor, turned.stage⟩
  | stopSent _ _ course =>
    have turns := course.turns
    rw [frameSlots] at turns
    omega

/-- The peripheral's turn, when it is due. -/
theorem Stage.peripheral_advances {n : Nat} (sub : Submitted s) (way : Underway s u)
    (stage : Stage s u (n + 1) .peripheral) :
    ∃ t, peripheralTurn u = .next t ∧ EngineTurn s u t n .sequencer := by
  have configured := (way.submitted sub).configured
  cases stage with
  | loaded code phase shift course =>
    obtain ⟨count, drive, _⟩ := shift
    rw [peripheralTurn_of_tx8 configured count drive]
    exact ⟨_, rfl, rfl, List.Subset.refl _, .sent code phase ⟨rfl, rfl⟩ rfl course.spend⟩
  | listening code phase shift out course =>
    obtain ⟨count, drive, _⟩ := shift
    rw [peripheralTurn_of_rx1 configured count drive]
    refine ⟨_, rfl, rfl, List.Subset.refl _, .answered code phase ⟨rfl, rfl⟩ ?_⟩
    change OnCourse s (u.nackslot + 1) (u.w ++ [.ackbit (slaveAnswer u u.nackslot)])
      (if nackBit (ackRegister (Config.freeSevenBits u.draws) (slaveAnswer u u.nackslot)) then []
        else bytesAhead s.mem u) 0 n
    rw [nackBit_ackRegister, way.slaveAnswer, out]
    exact course.spend.answer
  | stopping code shift course =>
    obtain ⟨count, drive, _⟩ := shift
    rw [peripheralTurn_of_tx1 configured count drive]
    exact ⟨_, rfl, rfl, List.Subset.refl _, .stopSent code ⟨rfl, rfl⟩ course.spend⟩

end Sys2Proof.Safety
end

section
/-! PROOFS. The host's turns while a transaction runs (20_memory R43, 40_host_operations R82, 43_command_layer R135): an
admissible action is never refused and leaves the engine and the payload alone. -/

namespace Sys2Proof.Safety

open Sys2Proof.Machine

variable {s t u v : State}

/-- A host turn answers, writes the host's own elements only, and leaves the payload of `s` and an admissible program. -/
def HostTurn (s u : State) (r : Result) : Prop :=
  ∃ mem cond idle program,
    r = .next { u with mem := mem, sleepcond := cond, idleOut := idle, program := program } ∧
    (∀ a ∈ payloadLeft s, Memory.read mem a = Memory.read u.mem a) ∧ ∀ act ∈ program, admissible s act

/-- A host turn that writes no memory. -/
theorem HostTurn.of_mem {cond : WakeMask} {idle : Bool} {program : List HostAct}
    (ok : ∀ act ∈ program, admissible s act) :
    HostTurn s u (.next { u with sleepcond := cond, idleOut := idle, program := program }) :=
  ⟨_, _, _, _, rfl, fun _ _ => rfl, ok⟩

/-- An `ISIDLE` answers, and a legal `SUBMIT` holds in a busy engine. -/
theorem hostCommand_of_admissible {cmd : BitVec 2} {ports : Ports} {rest : List HostAct} (configured : u.cfg = true)
    (busy : isIdle u = false) (ok : ∀ act ∈ u.program, admissible s act) (okRest : ∀ act ∈ rest, admissible s act)
    (okCommand : admissible s (.command cmd ports)) : HostTurn s u (hostCommand cmd ports rest u) := by
  obtain rfl | ⟨rfl, legal, fits⟩ := okCommand
  · exact .of_mem okRest
  · have accepted : submitRefusal ports.ctrl ports.ptr ports.len ports.rpt u = none :=
      submitRefusal_eq_none.2 ⟨configured, legalControlByte_iff.2 legal, payloadWraps_eq_false.2 fits⟩
    have held : holds (.submit ports.ctrl ports.ptr ports.len ports.rpt ports.wmask) u = true := by
      simp [holds, accepted, busy]
    have stays : hostCommand 0b10#2 ports rest u = .next u := if_pos held
    rw [stays]
    exact .of_mem (u := u) ok

/-- `WAITIDLE` on a busy engine goes to sleep, in this host step or in its next one. -/
theorem waitStep_of_busy {mask : WakeMask} {rest : List HostAct} (busy : isIdle u = false)
    (ok : ∀ act ∈ u.program, admissible s act) (okRest : ∀ act ∈ rest, admissible s act) :
    HostTurn s u (waitStep mask rest u) := by
  have waits : waitStep mask rest u =
      if Config.waitAtomic then .next (sleepHost mask (recordIdle u))
      else .next { recordIdle u with program := .waitSleep mask :: rest } := if_neg (by rw [busy]; decide)
  rw [waits]
  split
  · exact .of_mem (u := u) ok
  · exact .of_mem (List.forall_mem_cons.2 ⟨trivial, okRest⟩)

theorem hostAction_of_admissible {act : HostAct} {rest : List HostAct} (sub : Submitted s) (way : Underway s u)
    (busy : isIdle u = false) (hp : u.program = act :: rest) (ok : ∀ act ∈ u.program, admissible s act) :
    HostTurn s u (hostAction act rest u) := by
  have ⟨okAct, okRest⟩ := List.forall_mem_cons.1 (hp ▸ ok)
  cases act with
  | command cmd ports =>
    exact hostCommand_of_admissible (way.submitted sub).configured busy ok okRest okAct
  | memWrite a b =>
    obtain ⟨outside, apart⟩ := okAct
    have written : hostWrite a b u = .next { u with mem := Memory.write u.mem a.toNat b } :=
      hostWrite_eq_next.2 ⟨.inr ((way.inPayloadRange a.toNat).trans outside), rfl⟩
    refine ⟨_, _, _, rest, by rw [hostAction, written, andThen_next], fun x hx => ?_, okRest⟩
    exact Memory.read_write_other b fun same => apart (same ▸ hx)
  | sleep mask => exact .of_mem okRest
  | waitIdle mask => exact waitStep_of_busy busy ok okRest
  | waitSleep mask => exact .of_mem (List.forall_mem_cons.2 ⟨trivial, okRest⟩)

theorem hostTurn_of_admissible (sub : Submitted s) (way : Underway s u) (busy : isIdle u = false)
    (ok : ∀ act ∈ u.program, admissible s act) : HostTurn s u (hostTurn u) := by
  by_cases running : u.sleepcond = 0#_
  · cases hp : u.program with
    | nil =>
      have rests : hostTurn u = .next u := by simp [hostTurn, hp]
      rw [rests]
      exact .of_mem (u := u) ok
    | cons act rest =>
      rw [hostTurn_of_action running hp]
      exact hostAction_of_admissible sub way busy hp ok
  · have sleeps : hostTurn u = .next u := if_neg (hostRunning_iff.not.2 running)
    rw [sleeps]
    exact .of_mem (u := u) ok

end Sys2Proof.Safety
end

section
/-! PROOFS. The whole schedule of one transaction (20_memory R50, 60_exceptions R144): the agent that is due moves it on,
every other turn leaves it where it is, and the last turn is `IRQ_STOP`. -/

namespace Sys2Proof.Safety

open Sys2Proof.Machine

variable {s t u v : State}

/-! ## One turn before the last -/

/-- What a turn of agent `a` before the last one makes of `u`, whether or not `a` is due. -/
structure Turned (s u : State) (a : Agent) (t : State) : Prop where
  underway : Underway s t
  sched : t.sched = u.sched
  program : (∀ act ∈ u.program, admissible s act) → ∀ act ∈ t.program, admissible s act
  unhosted : a ≠ .host → t.sleepcond = u.sleepcond ∧ t.mem = u.mem ∧ t.program = u.program

theorem Turned.of_rest {a : Agent} (way : Underway s u) : Turned s u a u :=
  ⟨way, rfl, id, fun _ => ⟨rfl, rfl, rfl⟩⟩

theorem EngineTurn.turned {n : Nat} {next a : Agent} (way : Underway s u) (turn : EngineTurn s u t n next) :
    Turned s u a t := by
  have mem : t.mem = u.mem := (congrArg (·.mem) turn.beside :)
  have program : t.program = u.program := (congrArg (·.program) turn.beside :)
  have cond : t.sleepcond = u.sleepcond := (congrArg (·.sleepcond) turn.beside :)
  have constant : constants t = constants u := by rw [constants, turn.beside, constants]
  exact ⟨⟨constant.trans way.constant, by rw [mem]; exact way.reads, List.Subset.trans turn.cursor way.cursor⟩,
    (congrArg (·.sched) turn.beside :), by rw [program]; exact id, fun _ => ⟨cond, mem, program⟩⟩

/-- The agent that is due takes the transaction to its next stage. -/
theorem Stage.dueTurn {n : Nat} {due : Agent} (sub : Submitted s) (way : Underway s u) (stage : Stage s u (n + 1) due) :
    ∃ t, agentTurn due u = .next t ∧ Turned s u due t ∧ Stage s t n (counterpart due) := by
  cases due with
  | host | environment => nomatch stage
  | sequencer =>
    obtain ⟨t, ht, turn⟩ := stage.sequencer_advances sub way
    exact ⟨t, ht, turn.turned way, turn.stage⟩
  | peripheral =>
    obtain ⟨t, ht, turn⟩ := stage.peripheral_advances sub way
    exact ⟨t, ht, turn.turned way, turn.stage⟩

theorem Stage.sequencer_rests {n : Nat} (stage : Stage s u n .peripheral) : sequencerTurn u = .next u := by
  have off : sequencerEnabled u = false := by
    cases stage with
    | loaded _ _ shift | listening _ _ shift | stopping _ shift =>
      obtain ⟨_, _, noFlag⟩ := shift
      simp [sequencerEnabled, noFlag]
  simp [sequencerTurn, off]

theorem Stage.peripheral_rests {n : Nat} (stage : Stage s u n .sequencer) : peripheralTurn u = .next u := by
  have off : peripheralEnabled u = false := by
    cases stage with
    | started _ _ flag | sent _ _ flag | answered _ _ flag | stopSent _ flag =>
      obtain ⟨noShift, _⟩ := flag
      simp [peripheralEnabled, noShift]
  simp [peripheralTurn, off]

/-- Any other agent leaves the transaction at its stage. -/
theorem Stage.otherTurn {n : Nat} {a due : Agent} (sub : Submitted s) (way : Underway s u) (stage : Stage s u n due)
    (other : a ≠ due) (host : a = .host → ∀ act ∈ u.program, admissible s act)
    (environment : a = .environment → s.injects = 0) :
    ∃ t, agentTurn a u = .next t ∧ Turned s u a t ∧ Stage s t n due := by
  cases a with
  | host =>
    obtain ⟨mem, cond, idle, program, ht, reads, ok⟩ := hostTurn_of_admissible sub way stage.busy (host rfl)
    exact ⟨_, ht, ⟨⟨way.constant, fun a ha => (reads a ha).trans (way.reads a ha), way.cursor⟩, rfl, fun _ => ok,
      fun h => absurd rfl h⟩, stage.outside mem cond idle program u.sched⟩
  | sequencer =>
    cases due with
    | sequencer => exact absurd rfl other
    | peripheral => exact ⟨u, stage.sequencer_rests, .of_rest way, stage⟩
    | host | environment => nomatch stage
  | peripheral =>
    cases due with
    | peripheral => exact absurd rfl other
    | sequencer => exact ⟨u, stage.peripheral_rests, .of_rest way, stage⟩
    | host | environment => nomatch stage
  | environment =>
    have rests : environmentTurn u = .next u := by simp [environmentTurn, way.injects, environment rfl]
    exact ⟨u, rests, .of_rest way, stage⟩

/-- One turn of the schedule, due or not. -/
theorem Stage.turn {a due : Agent} {l : List Agent} (sub : Submitted s) (way : Underway s u)
    (stage : Stage s u (turnsTaken due (a :: l)) due) (host : a = .host → ∀ act ∈ u.program, admissible s act)
    (environment : a = .environment → s.injects = 0) :
    ∃ t next, agentTurn a u = .next t ∧ Turned s u a t ∧ Stage s t (turnsTaken next l) next := by
  rw [turnsTaken] at stage
  split at stage
  · rename_i same
    subst same
    obtain ⟨t, ht, turned, stage⟩ := stage.dueTurn sub way
    exact ⟨t, _, ht, turned, stage⟩
  · rename_i other
    obtain ⟨t, ht, turned, stage⟩ := stage.otherTurn sub way other host environment
    exact ⟨t, _, ht, turned, stage⟩

/-! ## The whole schedule -/

/-- Every schedule that gives the two engine agents their turns takes the transaction to its last one. -/
theorem Stage.run {l later : List Agent} {due : Agent} (sub : Submitted s) (way : Underway s u)
    (stage : Stage s u (turnsTaken due l) due) (host : .host ∈ l → ∀ act ∈ u.program, admissible s act)
    (environment : .environment ∈ l → s.injects = 0) (hs : u.sched = l ++ later) :
    ∃ v last, steps l.length u = .next v ∧ Underway s v ∧ Stage s v 0 last ∧ v.sched = later ∧
      (.host ∉ l → v.sleepcond = u.sleepcond ∧ v.mem = u.mem ∧ v.program = u.program) := by
  induction l generalizing u due with
  | nil => exact ⟨u, due, rfl, way, stage, hs, fun _ => ⟨rfl, rfl, rfl⟩⟩
  | cons a l ih =>
    obtain ⟨t, next, ht, turned, stage⟩ := Stage.turn (u := { u with sched := l ++ later }) sub
      ⟨way.constant, way.reads, way.cursor⟩ (stage.outside u.mem u.sleepcond u.idleOut u.program _)
      (fun h => host (h ▸ List.mem_cons_self)) (fun h => environment (h ▸ List.mem_cons_self))
    obtain ⟨v, last, hv, wayLast, stageLast, hsched, same⟩ := ih turned.underway stage
      (fun h => turned.program (host (List.mem_cons_of_mem a h))) (fun h => environment (List.mem_cons_of_mem a h))
      turned.sched
    refine ⟨v, last, steps_of_step ((step_of_sched (way.submitted sub).nothingDirect hs).trans ht) hv, wayLast, stageLast,
      hsched, fun h => ?_⟩
    obtain ⟨cond, mem, program⟩ := same fun hl => h (List.mem_cons_of_mem a hl)
    obtain ⟨cond', mem', program'⟩ := turned.unhosted fun ha => h (ha ▸ List.mem_cons_self)
    exact ⟨cond.trans cond', mem.trans mem', program.trans program'⟩

/-- A run of `n + 1` steps ends with a step. -/
theorem steps_snoc {r : Result} {n : Nat} (h : steps n s = .next t) (h' : step t = r) : steps (n + 1) s = r := by
  induction n generalizing s with
  | zero =>
    obtain rfl := next_eq_next.1 h
    rw [steps, h']
    cases r <;> rfl
  | succ n ih =>
    obtain ⟨u, hu, hrest⟩ := andThen_eq_next.1 h
    exact steps_of_step hu (ih hrest)

/-- The state `IRQ_STOP` leaves (41_sequencer_steps R96). -/
def stopped (u : State) : State :=
  wakeHost (enterState StateCode.idle (setOE false (drawSR (appendWire .stop (takeInterrupt u)))))

@[simp] theorem stopped_w : (stopped u).w = u.w ++ [.stop] := by simp [stopped]
@[simp] theorem stopped_nackslot : (stopped u).nackslot = u.nackslot := by simp [stopped]
@[simp] theorem stopped_tstate : (stopped u).tstate = StateCode.idle := by simp [stopped]
@[simp] theorem stopped_cnt : (stopped u).cnt = u.cnt := by simp [stopped]
@[simp] theorem stopped_ifg : (stopped u).ifg = false := by simp [stopped]
@[simp] theorem stopped_oe : (stopped u).oe = false := by simp [stopped]
@[simp] theorem stopped_sleepcond : (stopped u).sleepcond = clearedConditions u.sleepcond u.wmask := by
  simp [stopped, wakeHost_sleepcond]
@[simp] theorem stopped_k : (stopped u).k = if u.wmask = 0#_ then u.k else u.k ++ [u.wmask] := by
  by_cases h : u.wmask = 0#_ <;> simp [stopped, wakeHost_k, h]
@[simp] theorem stopped_mem : (stopped u).mem = u.mem := by simp [stopped]
@[simp] theorem stopped_program : (stopped u).program = u.program := by simp [stopped]
@[simp] theorem stopped_sched : (stopped u).sched = u.sched := by simp [stopped]

theorem clearedConditions_and {n : Nat} (cond mask : BitVec n) : clearedConditions cond mask &&& mask = 0#n := by
  ext i hi
  simp [clearedConditions]

/-- The last turn is `IRQ_STOP`. -/
theorem Stage.lastStep {last : Agent} {later : List Agent} (sub : Submitted s) (way : Underway s u)
    (stage : Stage s u 0 last) (hs : u.sched = .sequencer :: later) :
    step u = .next (stopped { u with sched := later }) := by
  obtain ⟨code, flag, _⟩ := stage.last
  have ⟨nothingDirect, enabled, configured, _⟩ := way.submitted sub
  rw [step_of_sched nothingDirect hs]
  exact sequencerTurn_of_entry (i := .irqStop) flag.2 enabled configured (by rw [code]; rfl)

/-- Settles O60: the schedule takes the submitted transaction to its last stage, where the trace and the slot count are the
frame's but for the `STOP`, and `IRQ_STOP` ends it. -/
theorem transactionSendsExactlyItsFrame : Obligations.TransactionSendsExactlyItsFrame := by
  intro s l rest j hd code phase count flag enabled configured plain host environment hj turns hs
  have sub : Submitted s := ⟨hd, enabled, configured, plain⟩
  have start : Stage s s (turnsTaken .sequencer l) .sequencer :=
    .of_submitted code phase ⟨count, flag⟩ (by omega)
  obtain ⟨v, last, hv, way, stage, hsched, same⟩ := start.run sub (.refl s) host environment hs
  obtain ⟨_, ⟨hcnt, _⟩, trace, slots, _⟩ := stage.last
  refine ⟨_, steps_snoc hv (stage.lastStep sub way hsched), ?_⟩
  have wire : v.w = s.w ++ [.start] ++ frameEvents s (frameBytes s) s.nackslot := by
    simpa [frameEvents] using trace
  have slot : v.nackslot = s.nackslot + j := by rw [hj]; exact slots
  refine ⟨by rw [stopped_w, wire], stopped_nackslot.trans slot, stopped_tstate, stopped_cnt.trans hcnt, stopped_ifg,
    stopped_oe, ?cleared, ?logged, stopped_sched, ?payload, fun alone => ?untouched⟩
  case cleared =>
    rw [stopped_sleepcond, way.wmask]
    exact clearedConditions_and _ _
  case logged => rw [stopped_k, way.wmask, way.k]
  case payload =>
    rw [stopped_mem]
    exact way.reads
  case untouched =>
    obtain ⟨cond, mem, program⟩ := same alone
    exact ⟨by rw [stopped_sleepcond, way.wmask, cond]; rfl, stopped_mem.trans mem, stopped_program.trans program⟩

end Sys2Proof.Safety
end

section
/-! PROOFS. The codes (30_encoding R60 to R72): decoder and encoder agree, a row of the opcode table outside format `CALL`
fits the code of its operation alone, and the reserved codes are rejected by name. -/

namespace Sys2Proof

variable {i : Instr} {c d : Code} {p : Ports}

/-! ## Decoder and encoder -/

theorem decode_encode (i : Instr) : decode (encode i) = .ok i := by
  cases i with
  | isidle | init | submit => rfl
  | irqIdle | irqStart | irqPrepack | irqRxtx | irqPrepstop | irqStop => rfl
  | xferAddr | xferCtrl | xferPayload => rfl
  | loadShiftRegister | readShiftRegister | shiftBits | setOutputEnable | assertStartLatch | raiseInterruptFlag
  | clearInterruptFlag | configurePeripheral | disableInterrupts | enableInterrupts => rfl
  | shiftTx8 | shiftRx1 | shiftTx1 => rfl
  | prepareTransfer | prepareStop => rfl

/-- One arm of a format's decoder: the operation it selects has the code the arm tests for, or a later arm selects. -/
theorem encode_code_of_arm {w : Nat} {format : BitVec w → Code} {x k : BitVec w} {a : Instr} {later : Except Reject Instr}
    (arm : (encode a).code = format k) (rest : later = .ok i → (encode i).code = format x) :
    (if x = k then .ok a else later) = .ok i → (encode i).code = format x := by
  intro h
  split at h
  · rename_i hx
    obtain rfl := Except.ok.inj h
    rw [hx, arm]
  · exact rest h

theorem encode_code_of_decodeHost {cmd : BitVec 2} : decodeHost cmd p = .ok i → (encode i).code = .host cmd := by
  unfold decodeHost
  iterate 3 refine encode_code_of_arm rfl ?_
  nofun

theorem encode_code_of_decodeSeq {x : BitVec 8} : decodeSeq x = .ok i → (encode i).code = .seq x := by
  unfold decodeSeq
  iterate 6 refine encode_code_of_arm rfl ?_
  nofun

theorem encode_code_of_decodePhase {x : BitVec 8} : decodePhase x = .ok i → (encode i).code = .phase x := by
  unfold decodePhase
  iterate 3 refine encode_code_of_arm rfl ?_
  nofun

theorem encode_code_of_decodePrim {sel : BitVec 4} : decodePrim sel p = .ok i → (encode i).code = .prim sel := by
  unfold decodePrim
  iterate 10 refine encode_code_of_arm rfl ?_
  nofun

theorem encode_code_of_decodeAgent {t : BitVec 5} : decodeAgent t = .ok i → (encode i).code = .agent t := by
  unfold decodeAgent
  iterate 3 refine encode_code_of_arm rfl ?_
  split <;> nofun

theorem encode_code_of_decodeCall (r : Routine) : (encode (decodeCall r)).code = .call r := by
  cases r <;> rfl

/-- A word that selects an operation carries that operation's code, whatever stands on its ports. -/
theorem encode_code_of_decode {x : OpWord} (h : decode x = .ok i) : (encode i).code = x.code := by
  obtain ⟨code, ports⟩ := x
  cases code with
  | host cmd => exact encode_code_of_decodeHost h
  | seq tstate => exact encode_code_of_decodeSeq h
  | phase phase => exact encode_code_of_decodePhase h
  | prim sel => exact encode_code_of_decodePrim h
  | agent t => exact encode_code_of_decodeAgent h
  | call r =>
    obtain rfl := Except.ok.inj h
    exact encode_code_of_decodeCall r

/-- Settles O1: every operation is decoded from its own word, and each arm of the decoder tests for the code of the
operation it selects. -/
theorem operationsAndCodesAgreeBothWays : Obligations.OperationsAndCodesAgreeBothWays :=
  ⟨decode_encode, fun _ _ => encode_code_of_decode⟩

/-- Settles O2: the six words are codes of the tables, and their operands are those of the ports. -/
theorem wordsOfTheTablesDecode : Obligations.WordsOfTheTablesDecode :=
  ⟨fun _ => rfl, fun _ => rfl, fun _ => rfl, fun _ => rfl, fun _ => rfl, fun _ => rfl⟩

/-! ## The opcode table -/

/-- How many bits a code of the format has (30_encoding R61 to R64). -/
def RowFormat.width : RowFormat → Nat
  | .H => 2
  | .S => 8
  | .P => 8
  | .M => 4
  | .AGENT => 5
  | .CALL => 0

theorem Code.bits_lt (c : Code) : c.bits < 2 ^ c.format.width := by
  cases c with
  | call => exact Nat.one_pos
  | host b | seq b | phase b | prim b | agent b => exact b.isLt

/-- The code with these bits, in a format whose codes are bits. -/
def RowFormat.code : RowFormat → Nat → Option Code
  | .H, n => some (.host (BitVec.ofNat 2 n))
  | .S, n => some (.seq (BitVec.ofNat 8 n))
  | .P, n => some (.phase (BitVec.ofNat 8 n))
  | .M, n => some (.prim (BitVec.ofNat 4 n))
  | .AGENT, n => some (.agent (BitVec.ofNat 5 n))
  | .CALL, _ => none

theorem Code.format_code_bits (named : c.format ≠ .CALL) : c.format.code c.bits = some c := by
  cases c with
  | call => exact absurd rfl named
  | host b | seq b | phase b | prim b | agent b => simp [Code.format, Code.bits, RowFormat.code]

/-- Outside format `CALL` a code is its format and its bits. -/
theorem Code.eq_of_bits (named : c.format ≠ .CALL) (format : c.format = d.format) (bits : c.bits = d.bits) : c = d := by
  apply Option.some.inj
  rw [← format_code_bits named, ← format_code_bits (format ▸ named), format, bits]

/-- Every row masks all the bits of its format. -/
theorem Instr.row_mask (i : Instr) : i.row.mask = 2 ^ i.row.format.width - 1 := by
  cases i <;> rfl

theorem TableRow.fits_iff {r : TableRow} : r.fits c = true ↔ r.format = c.format ∧ c.bits &&& r.mask = r.value := by
  simp [TableRow.fits]

/-- A code fits the row of an operation exactly when it has the row's format and number. -/
theorem Instr.row_fits_iff : i.row.fits c = true ↔ i.row.format = c.format ∧ c.bits = i.row.value := by
  rw [TableRow.fits_iff, and_congr_right_iff]
  intro format
  rw [row_mask, format, Nat.and_two_pow_sub_one_of_lt_two_pow c.bits_lt]

theorem encode_code_format (i : Instr) : (encode i).code.format = i.row.format := by
  cases i <;> rfl

theorem encode_code_bits (i : Instr) : (encode i).code.bits = i.row.value := by
  cases i <;> rfl

/-- The only code that fits an operation's row outside format `CALL` is the operation's own. -/
theorem encode_code_of_row_fits (named : c.format ≠ .CALL) (fits : i.row.fits c = true) : (encode i).code = c := by
  obtain ⟨format, bits⟩ := Instr.row_fits_iff.1 fits
  exact (Code.eq_of_bits named (format.symm.trans (encode_code_format i).symm)
    (bits.trans (encode_code_bits i).symm)).symm

/-- Settles O4: both operations have the one code that fits. -/
theorem noCodeFitsTwoRows : Obligations.NoCodeFitsTwoRows := by
  intro i j c named fi fj
  exact (encode_code_of_row_fits named fi).trans (encode_code_of_row_fits named fj).symm

/-! ## The reserved codes -/

theorem decodeSeq_of_reserved {x : BitVec 8} (h : x ∉ [0x00#8, 0x02#8, 0x04#8, 0x06#8, 0x08#8, 0x0A#8]) :
    decodeSeq x = .error .badStateCode := by
  simp only [List.mem_cons, List.not_mem_nil, or_false, not_or] at h
  obtain ⟨idle, start, prepareAckNack, handleRxTx, prepareStop, stop⟩ := h
  exact (if_neg idle).trans <| (if_neg start).trans <| (if_neg prepareAckNack).trans <| (if_neg handleRxTx).trans <|
    (if_neg prepareStop).trans <| if_neg stop

theorem decodePhase_of_reserved {x : BitVec 8} (h : x ∉ [0x00#8, 0x02#8, 0x04#8]) :
    decodePhase x = .error .badPhaseCode := by
  simp only [List.mem_cons, List.not_mem_nil, or_false, not_or] at h
  obtain ⟨sendAddress, sendControl, sendPayload⟩ := h
  exact (if_neg sendAddress).trans <| (if_neg sendControl).trans <| if_neg sendPayload

theorem decodePrim_of_reserved {sel : BitVec 4} (h : 0xA ≤ sel.toNat) : decodePrim sel p = .error .reservedPrimitive := by
  have other (k : BitVec 4) (hk : k.toNat < 0xA) : sel ≠ k := by
    rintro rfl
    omega
  simp [decodePrim, other]

/-- Settles O3: a code that no arm tests for comes to the rejection at the end of its format's decoder. -/
theorem reservedCodesAreRejectedByName : Obligations.ReservedCodesAreRejectedByName := by
  refine ⟨fun _ => rfl, fun _ _ h => decodePrim_of_reserved h, fun c _ => ?seq, fun c _ => ?phase⟩
  case seq =>
    intro h0 h2 h4 h6 h8 hA
    exact decodeSeq_of_reserved (by simp [h0, h2, h4, h6, h8, hA])
  case phase =>
    intro h0 h2 h4
    exact decodePhase_of_reserved (by simp [h0, h2, h4])

end Sys2Proof
end

section
/-! PROOFS. A step runs the operation its code selects (20_memory R50), or stops under the name of a code that selects none
(30_encoding R72). -/

namespace Sys2Proof.Machine

open Sys2Proof.Safety

variable {s : State} {i : Instr}

theorem step_of_moves {a : Agent} (h : moves a s) : step s = agentTurn a (passTurn s) := by
  obtain ⟨free, turn⟩ := h
  rw [step_of_turn free, turn]

/-! ## The host -/

theorem hostCommand_of_decode {cmd : BitVec 2} {ports : Ports} {rest : List HostAct}
    (h : decode { code := .host cmd, ports := ports } = .ok i) (goes : holds i s = false) :
    hostCommand cmd ports rest s = andThen (exec i s) fun t => .next { t with program := rest } := by
  simp [hostCommand, h, goes]

/-- On its turn a running host takes the next action of its program. -/
theorem step_of_hostAction {act : HostAct} {rest : List HostAct} (h : moves .host s) (running : s.sleepcond = 0#_)
    (hp : s.program = act :: rest) : step s = hostAction act rest (passTurn s) := by
  rw [step_of_moves h, agentTurn, hostTurn_of_action (by rwa [passTurn_sleepcond]) (by rwa [passTurn_program])]

/-- Settles O6: the head of the program is the command, which is decoded and run. -/
theorem stepRunsTheHostCommand : Obligations.StepRunsTheHostCommand := by
  intro s cmd ports rest i h running hp hi goes
  rw [step_of_hostAction h running hp]
  exact hostCommand_of_decode hi goes

/-! ## The sequencer -/

/-- With the interrupt enabled, a `TSTATE` outside the table stops the machine. -/
theorem sequencerTurn_of_reserved (flag : s.ifg = true) (enabled : s.gie = true) (configured : s.cfg = true)
    (h : s.tstate ∉ [0x00#8, 0x02#8, 0x04#8, 0x06#8, 0x08#8, 0x0A#8]) : sequencerTurn s = .fault .badStateCode := by
  simp [sequencerTurn, sequencerEnabled, flag, enabled, configured, decode, decodeSeq_of_reserved h, rejected]

/-- Settles O7: at an enabled interrupt the sequencer's turn is the entry that `TSTATE` selects. -/
theorem stepRunsTheDispatchEntry : Obligations.StepRunsTheDispatchEntry := by
  intro s i h flag enabled configured hi
  rw [step_of_moves h]
  exact sequencerTurn_of_entry (by rwa [passTurn_ifg]) (by rwa [passTurn_gie]) (by rwa [passTurn_cfg])
    (by rwa [passTurn_tstate])

/-! ## The peripheral -/

/-- A tuple whose count is neither 1 nor 8 is no form of `SHIFT` (42_peripheral_primitives R120). -/
theorem decodeAgent_of_bad_count {n : BitVec 4} (oe : Bool) (h1 : n ≠ 1#4) (h8 : n ≠ 8#4) :
    decodeAgent (agentTuple n oe) = .error .badShiftCount := by
  revert n oe
  decide

theorem shiftForm_of_bad_count (h1 : s.cnt ≠ 1) (h8 : s.cnt ≠ 8) : shiftForm s = .error .badShiftCount := by
  unfold shiftForm
  split
  · exact decodeAgent_of_bad_count s.oe (by bv_omega) (by bv_omega)
  · rfl

/-- With 8 bits commanded and the line released, the tuple is the 8-bit receive (30_encoding R72(f)). -/
theorem shiftForm_of_receive (h : s.cnt = 8) (ho : s.oe = false) : shiftForm s = .error .receiveNotSupported := by
  simp [shiftForm, h, ho, decode, decodeAgent, agentTuple]

theorem peripheralTurn_of_reject {e : Reject} (configured : s.cfg = true) (commanded : s.cnt ≠ 0)
    (h : shiftForm s = .error e) : peripheralTurn s = rejected e := by
  simp [peripheralTurn, peripheralEnabled, configured, commanded, h]

/-- With a shift commanded, the peripheral's turn by `CNT` and `OE` (42_peripheral_primitives R120). -/
theorem peripheralTurn_of_commanded (configured : s.cfg = true) (commanded : s.cnt ≠ 0) :
    peripheralTurn s =
      if s.cnt = 8 ∧ s.oe = true then exec .shiftTx8 s
      else if s.cnt = 1 ∧ s.oe = false then exec .shiftRx1 s
      else if s.cnt = 1 ∧ s.oe = true then exec .shiftTx1 s
      else if s.cnt = 8 ∧ s.oe = false then .refused .receiveNotSupported
      else .refused .badShiftCount := by
  split_ifs with tx8 rx1 tx1 receive
  · exact peripheralTurn_of_tx8 configured tx8.1 tx8.2
  · exact peripheralTurn_of_rx1 configured rx1.1 rx1.2
  · exact peripheralTurn_of_tx1 configured tx1.1 tx1.2
  · exact peripheralTurn_of_reject configured commanded (shiftForm_of_receive receive.1 receive.2)
  · have count : s.cnt ≠ 1 ∧ s.cnt ≠ 8 := by cases drive : s.oe <;> simp_all
    exact peripheralTurn_of_reject configured commanded (shiftForm_of_bad_count count.1 count.2)

/-- Settles O8: the peripheral's turn reads `CFG`, `CNT` and `OE`, which passing the turn leaves alone. -/
theorem stepRunsTheShift : Obligations.StepRunsTheShift := by
  intro s h configured commanded
  have turn := peripheralTurn_of_commanded (s := passTurn s) (by rwa [passTurn_cfg]) (by rwa [passTurn_cnt])
  rw [step_of_moves h, agentTurn, turn, passTurn_cnt, passTurn_oe]

/-! ## The port of an operation presented by itself (log 10) -/

theorem step_of_direct_ok {x : OpWord} (h : s.direct = some x) (hi : decode x = .ok i) :
    step s = exec i { s with direct := none } := by
  simp [step_of_direct h, runDirect, hi]

theorem step_of_direct_error {x : OpWord} {e : Reject} (h : s.direct = some x) (he : decode x = .error e) :
    step s = rejected e := by
  simp [step_of_direct h, runDirect, he]

/-- Settles O9: a step takes the presented word from its port and runs the operation it decodes to. -/
theorem stepRunsTheDirectOperation : Obligations.StepRunsTheDirectOperation :=
  fun _ _ _ => step_of_direct_ok

/-! ## The stops (30_encoding R72) -/

theorem loadByPhase_of_reserved (h : s.phase ∉ [0x00#8, 0x02#8, 0x04#8]) : loadByPhase s = .fault .badPhaseCode := by
  simp only [List.mem_cons, List.not_mem_nil, or_false, not_or] at h
  obtain ⟨sendAddress, sendControl, sendPayload⟩ := h
  exact (if_neg sendAddress).trans <| (if_neg sendControl).trans <| if_neg sendPayload

/-- Where the length does not stop it first, `prepareTransfer` faults on a phase outside the table. -/
theorem nextTransfer_of_reserved (hl : ¬ zeroLengthStops s) (h : s.phase ∉ [0x00#8, 0x02#8, 0x04#8]) :
    nextTransfer s = .fault .badPhaseCode := by
  have dispatch : loadByPhase (setOE true s) = .fault .badPhaseCode := loadByPhase_of_reserved h
  rw [nextTransfer_eq, lengthStops_eq_false_iff.2 hl, if_neg Bool.false_ne_true, byteTransfer, dispatch, andThen_fault]

/-- Settles O13: each code that selects nothing reaches the rejection of the decoder, or of `prepareTransfer`, that names
it. -/
theorem badCodesStopTheMachine : Obligations.BadCodesStopTheMachine := by
  refine ⟨fun s h flag enabled configured code => ?state, fun s hl hp => ⟨?transfer, ?start, fun ack => ?rxtx⟩,
    fun s p rest h running hp => ?command, fun s sel p h hsel => ?selector, fun s c p h hc => ?phase⟩
  case state =>
    rw [step_of_moves h]
    exact sequencerTurn_of_reserved (by rwa [passTurn_ifg]) (by rwa [passTurn_gie]) (by rwa [passTurn_cfg])
      (by rwa [passTurn_tstate])
  case transfer => exact nextTransfer_of_reserved hl hp
  case start => exact nextTransfer_of_reserved (s := pulseStartLatch (takeInterrupt s)) hl hp
  case rxtx =>
    have branch : exec .irqRxtx s = nextTransfer (takeInterrupt s) := if_neg (by simpa [nackBit] using ack)
    rw [branch]
    exact nextTransfer_of_reserved (s := takeInterrupt s) hl hp
  case command => exact step_of_hostAction h running hp
  case selector => exact step_of_direct_error h (decodePrim_of_reserved hsel)
  case phase => exact step_of_direct_error h (decodePhase_of_reserved hc)

end Sys2Proof.Machine
end

section
/-! PROOFS. The operations whose operands 30_encoding fixes: the answer of `ISIDLE` (R70), the five operands of `SUBMIT`
(R69), the address byte (R65) and the shift count (R67). -/

namespace Sys2Proof.Machine

/-- Settles O14: the answer is recorded on the result port. -/
theorem isidleAnswersWhetherIdle : Obligations.IsidleAnswersWhetherIdle := fun _ => rfl

/-- Settles O16: the operands pass the three refusals, and in `Idle` the transaction is recorded. -/
theorem submitRecordsTheTransaction : Obligations.SubmitRecordsTheTransaction := by
  intro s ctrl ptr len rpt wmask configured legal fits idle
  have accepted : submitRefusal ctrl ptr len rpt s = none :=
    submitRefusal_eq_none.2 ⟨configured, legalControlByte_iff.2 legal, payloadWraps_eq_false.2 fits⟩
  exact ⟨recordTransaction ctrl ptr len rpt wmask s,
    execSubmit_eq_next.2 ⟨accepted, (if_pos (isIdle_iff.2 idle)).symm⟩, rfl⟩

/-- The address byte is the address shifted above the R/W bit 0 (30_encoding R65). -/
theorem addrByteOf_eq_shiftLeft (dev : BitVec 7) : addrByteOf dev = dev.setWidth 8 <<< 1 := by
  revert dev
  decide

/-- Settles O29: with no shift in flight `XFER_ADDR` loads the address byte. -/
theorem xferAddrLoadsTheAddressByte : Obligations.XferAddrLoadsTheAddressByte :=
  fun _ rest => ⟨loadAddress_eq_next.2 ⟨rest, rfl⟩, addrByteOf_eq_shiftLeft Config.devAddr7⟩

theorem legalShiftCount_iff {n : Nat} : legalShiftCount n = true ↔ n = 1 ∨ n = 8 := by
  simp [legalShiftCount]

/-- Settles O35: `shiftBits` tests its count for 1 and 8. -/
theorem shiftBitsTakesOneOrEight : Obligations.ShiftBitsTakesOneOrEight := by
  intro s n
  simp only [← legalShiftCount_iff]
  rfl

end Sys2Proof.Machine
end

section
/-! PROOFS. The frame of every operation: the elements its rule's "State written" line names, and no others. -/

namespace Sys2Proof.Safety

open Sys2Proof.Machine

variable {s t u : State} {es fs : List Element}

/-! ## What a pair of states says of a list of elements -/

/-- Two states agree outside the elements of a list. -/
def WritesOnly (es : List Element) (s t : State) : Prop := ∀ e ∉ es, e.agree s t

/-- `s`, with the elements of a list as they are in `t`. -/
def overwrite (es : List Element) (s t : State) : State where
  tstate := if .tstate ∈ es then t.tstate else s.tstate
  phase := if .phase ∈ es then t.phase else s.phase
  ctrl := if .ctrl ∈ es then t.ctrl else s.ctrl
  ptr := if .ptr ∈ es then t.ptr else s.ptr
  len := if .len ∈ es then t.len else s.len
  rpt := if .rpt ∈ es then t.rpt else s.rpt
  wmask := if .wmask ∈ es then t.wmask else s.wmask
  sr := if .sr ∈ es then t.sr else s.sr
  cnt := if .cnt ∈ es then t.cnt else s.cnt
  oe := if .oe ∈ es then t.oe else s.oe
  ge := if .ge ∈ es then t.ge else s.ge
  ifg := if .ifg ∈ es then t.ifg else s.ifg
  gie := if .gie ∈ es then t.gie else s.gie
  cfg := if .cfg ∈ es then t.cfg else s.cfg
  clkdiv := if .clkdiv ∈ es then t.clkdiv else s.clkdiv
  clksrc := if .clksrc ∈ es then t.clksrc else s.clksrc
  sleepcond := if .sleepcond ∈ es then t.sleepcond else s.sleepcond
  mem := if .mem ∈ es then t.mem else s.mem
  w := if .w ∈ es then t.w else s.w
  k := if .k ∈ es then t.k else s.k
  nackslot := if .nackslot ∈ es then t.nackslot else s.nackslot
  idleOut := if .idleOut ∈ es then t.idleOut else s.idleOut
  srOut := if .srOut ∈ es then t.srOut else s.srOut
  rangeBase := if .rangeBase ∈ es then t.rangeBase else s.rangeBase
  rangeCount := if .rangeCount ∈ es then t.rangeCount else s.rangeCount
  notPlain := if .notPlain ∈ es then t.notPlain else s.notPlain
  program := if .program ∈ es then t.program else s.program
  injects := if .injects ∈ es then t.injects else s.injects
  answers := if .answers ∈ es then t.answers else s.answers
  direct := if .direct ∈ es then t.direct else s.direct
  sched := if .sched ∈ es then t.sched else s.sched
  draws := if .draws ∈ es then t.draws else s.draws
  zeroLenCheck := if .zeroLenCheck ∈ es then t.zeroLenCheck else s.zeroLenCheck

/-- Overwriting a list of elements writes no other. For a state written out by its fields the hypothesis is `rfl`. -/
theorem WritesOnly.of_overwrite (h : overwrite es s t = t) : WritesOnly es s t := by
  intro e outside
  rw [← h]
  cases e <;> exact if_neg outside

theorem Element.agree_trans {e : Element} (h : e.agree s u) (h' : e.agree u t) : e.agree s t := by
  cases e <;> exact Eq.trans h' h

/-- Actions one after another write what each of them writes. -/
theorem WritesOnly.trans (h : WritesOnly es s u) (h' : WritesOnly fs u t) : WritesOnly (es ++ fs) s t := by
  intro e outside
  rw [List.mem_append, not_or] at outside
  exact Element.agree_trans (h e outside.1) (h' e outside.2)

/-! ## The operations -/

/-- `prepareTransfer` ends in the stop or in one of the three loads (41_sequencer_steps R97 to R101). -/
theorem nextTransfer_writes (h : nextTransfer s = .next t) : WritesOnly transferWrites s t := by
  obtain ⟨_, ⟨_, rfl⟩ | ⟨_, _, rfl⟩ | ⟨_, _, rfl⟩ | ⟨_, _, _, rfl⟩⟩ := nextTransfer_cases h <;> exact .of_overwrite rfl

/-- Settles O38: each operation answers a state given by its fields, which differs from the old one in the listed elements
at most, or runs `prepareTransfer` after such a change. -/
theorem operationsWriteOnlyWhatTheirRulesName : Obligations.OperationsWriteOnlyWhatTheirRulesName := by
  intro i s t h
  change WritesOnly (statesWritten i) s t
  cases i with
  | init div src =>
    obtain ⟨_, rfl⟩ := execInit_eq_next.1 h
    exact .of_overwrite rfl
  | submit ctrl ptr len rpt wmask =>
    obtain ⟨_, ht⟩ := execSubmit_eq_next.1 h
    split at ht <;> subst ht <;> exact .of_overwrite rfl
  | irqStart =>
    have begun : WritesOnly [.ifg, .ge, .w] s (pulseStartLatch (takeInterrupt s)) := .of_overwrite rfl
    exact begun.trans (nextTransfer_writes h)
  | irqRxtx =>
    obtain ⟨_, _, rfl⟩ | ⟨_, transfer⟩ := execIrqRxtx_cases h
    · exact .of_overwrite rfl
    · have begun : WritesOnly [.ifg] s { s with ifg := false } := .of_overwrite rfl
      exact begun.trans (nextTransfer_writes transfer)
  | prepareTransfer => exact nextTransfer_writes h
  | irqPrepstop | prepareStop =>
    obtain ⟨_, rfl⟩ := stopPreparation_eq_next.1 h
    exact .of_overwrite rfl
  | irqStop =>
    obtain ⟨cond, log, woken⟩ := wakeHost_eq
    obtain rfl := (next_eq_next.1 h).trans woken
    exact .of_overwrite rfl
  | xferAddr =>
    obtain ⟨_, rfl⟩ := loadAddress_eq_next.1 h
    exact .of_overwrite rfl
  | xferCtrl =>
    obtain ⟨_, rfl⟩ := loadControl_eq_next.1 h
    exact .of_overwrite rfl
  | xferPayload =>
    obtain ⟨_, _, rfl⟩ := loadPayload_eq_next.1 h
    exact .of_overwrite rfl
  | loadShiftRegister b =>
    obtain ⟨_, rfl⟩ := loadSR_eq_next.1 h
    exact .of_overwrite rfl
  | shiftBits n =>
    obtain ⟨_, rfl⟩ := commandShift_eq_next.1 h
    exact .of_overwrite rfl
  | isidle | irqIdle | irqPrepack | readShiftRegister | setOutputEnable | assertStartLatch | raiseInterruptFlag
  | clearInterruptFlag | configurePeripheral | disableInterrupts | enableInterrupts | shiftTx8 | shiftRx1 | shiftTx1 =>
    obtain rfl := next_eq_next.1 h
    exact .of_overwrite rfl

end Sys2Proof.Safety
end

section
/-! PROOFS. `INIT`, and a `SUBMIT` that finds the engine busy (40_host_operations R81, R82). -/

namespace Sys2Proof.Machine

open Sys2Proof.Safety

variable {s : State}

/-- Settles O15: `INIT` asks `CFG` only, and its five actions leave the state the obligation writes out. -/
theorem initConfiguresThePeripheralOnce : Obligations.InitConfiguresThePeripheralOnce :=
  fun _ _ _ => ⟨fun unconfigured => execInit_eq_next.2 ⟨unconfigured, rfl⟩, fun configured => if_pos configured⟩

/-- A `SUBMIT` holds where it is not refused and the engine is busy (40_host_operations R82). -/
theorem holds_submit_iff {ctrl : Byte} {ptr : Addr} {len : Len} {rpt : Bool} {wmask : WakeMask} :
    holds (.submit ctrl ptr len rpt wmask) s = true ↔ submitRefusal ctrl ptr len rpt s = none ∧ isIdle s = false := by
  simp [holds]

/-- A host command that holds stays the host's next action and changes nothing. -/
theorem hostCommand_of_holds {cmd : BitVec 2} {ports : Ports} {rest : List HostAct} {i : Instr}
    (h : decode { code := .host cmd, ports := ports } = .ok i) (held : holds i s = true) :
    hostCommand cmd ports rest s = .next s := by
  simp [hostCommand, h, held]

/-- Settles O19: the three refusals are passed and the engine is busy, in `s` and after the turn is passed. -/
theorem busySubmitHolds : Obligations.BusySubmitHolds := by
  intro s p rest h running hp configured legal fits busy
  have accepted {u : State} (hc : u.cfg = true) : submitRefusal p.ctrl p.ptr p.len p.rpt u = none :=
    submitRefusal_eq_none.2 ⟨hc, legalControlByte_iff.2 legal, payloadWraps_eq_false.2 fits⟩
  have notIdle {u : State} (ht : u.tstate = s.tstate) : isIdle u = false := by
    rw [← Bool.not_eq_true, isIdle_iff, ht]
    exact busy
  constructor
  · have selects : decode { code := .host 0b10#2, ports := p } = .ok (.submit p.ctrl p.ptr p.len p.rpt p.wmask) := rfl
    have held := holds_submit_iff (wmask := p.wmask).2
      ⟨accepted ((passTurn_cfg s).trans configured), notIdle (passTurn_tstate s)⟩
    rw [step_of_hostAction h running hp]
    exact hostCommand_of_holds selects held
  · exact execSubmit_eq_next.2 ⟨accepted configured, by simp [notIdle]⟩

end Sys2Proof.Machine
end

section
/-! PROOFS. The sequencer's steps (41_sequencer_steps R90 to R101): when it has one, what each dispatch entry and each phase
entry leaves, and what `prepareTransfer` does from each phase. -/

namespace Sys2Proof.Machine

open Sys2Proof.Safety

variable {s : State}

/-! ## The enabling condition (60_exceptions R142) -/

theorem sequencerEnabled_eq_false : sequencerEnabled s = false ↔ s.ifg = false ∨ s.gie = false ∨ s.cfg = false := by
  simp only [← Bool.not_eq_true, sequencerEnabled_iff, not_and_or]

/-- Settles O10: passing the turn leaves the enabling condition alone, and without it the sequencer's turn does nothing. -/
theorem maskedSequencerTakesNoStep : Obligations.MaskedSequencerTakesNoStep := by
  intro s h masked
  have off : sequencerEnabled (passTurn s) = false := by
    rw [sequencerEnabled_eq_false, passTurn_ifg, passTurn_gie, passTurn_cfg]
    exact masked
  rw [step_of_moves h]
  exact if_neg (ne_true_of_eq_false off)

/-! ## The phase entries and `prepareStop` -/

theorem plainMemory_iff {a : Nat} : plainMemory s a = true ↔ a ∉ s.notPlain := by
  simp [plainMemory]

/-- Settles O30: with no shift in flight `XFER_CTRL` loads the control byte. -/
theorem xferCtrlLoadsTheControlByte : Obligations.XferCtrlLoadsTheControlByte :=
  fun _ rest => loadControl_eq_next.2 ⟨rest, rfl⟩

/-- Settles O31: the cursor's address is tested before the byte is loaded. -/
theorem xferPayloadLoadsTheByteAtTheCursor : Obligations.XferPayloadLoadsTheByteAtTheCursor := by
  refine ⟨fun s rest plain => ?loaded, fun s notPlain => ?refused⟩
  case loaded => exact loadPayload_eq_next.2 ⟨plainMemory_iff.2 plain, rest, rfl⟩
  case refused => exact if_neg fun plain => plainMemory_iff.1 plain notPlain

/-- Settles O32: with no shift in flight `prepareStop` commands the stop's one bit. -/
theorem prepareStopCommandsOneLowBit : Obligations.PrepareStopCommandsOneLowBit :=
  fun _ rest => stopPreparation_eq_next.2 ⟨rest, rfl⟩

/-! ## The entries that load nothing by phase -/

/-- Settles O20: the entry of `Idle` takes the interrupt, which clears the flag. -/
theorem irqIdleOnlyClearsTheFlag : Obligations.IrqIdleOnlyClearsTheFlag := fun _ => rfl

/-- Settles O22: one bit is a legal shift count, so the entry always completes. -/
theorem irqPrepackCommandsTheAckSlot : Obligations.IrqPrepackCommandsTheAckSlot := fun _ => rfl

/-- Settles O25: the entry is `prepareStop` with the flag cleared. -/
theorem irqPrepstopPreparesTheStop : Obligations.IrqPrepstopPreparesTheStop :=
  fun s rest => stopPreparation_eq_next (s := takeInterrupt s).2 ⟨rest, rfl⟩

/-- The wake-up register by register: a mask of 0 leaves both alone (41_sequencer_steps R96). -/
theorem wakeHost_eq_ite (s : State) :
    wakeHost s = { s with
      sleepcond := if s.wmask = 0#_ then s.sleepcond else s.sleepcond &&& ~~~s.wmask
      k := if s.wmask = 0#_ then s.k else s.k ++ [s.wmask] } := by
  by_cases h : s.wmask = 0#_
  · simp only [wakeHost, if_pos h]
  · simp only [wakeHost, if_neg h, clearedConditions]

/-- Settles O26: the wake-up is the entry's last action, and the actions before it leave mask, conditions and log alone. -/
theorem irqStopReturnsToIdleAndWakes : Obligations.IrqStopReturnsToIdleAndWakes :=
  fun _ => congrArg Host.Outcome.next (wakeHost_eq_ite _)

/-! ## `prepareTransfer` from each phase (41_sequencer_steps R97) -/

/-- In the phase `SendControl` the byte's half of `prepareTransfer` sends the control byte (41_sequencer_steps R99). -/
theorem byteTransfer_of_sendControl (rest : s.cnt = 0) (phase : s.phase = PhaseCode.sendControl) :
    byteTransfer s = .next { s with oe := true, sr := s.ctrl, phase := PhaseCode.sendPayload, cnt := 8,
                                    tstate := StateCode.prepareAckNack } :=
  byteTransfer_eq_next.2 ⟨_, loadByPhase_eq_next.2 (.inr (.inl ⟨phase, loadControl_eq_next.2 ⟨rest, rfl⟩⟩)), rfl⟩

/-- In the phase `SendPayload` the byte's half of `prepareTransfer` sends the byte at the cursor (41_sequencer_steps
R100). -/
theorem byteTransfer_of_sendPayload (rest : s.cnt = 0) (phase : s.phase = PhaseCode.sendPayload)
    (plain : s.ptr.toNat ∉ s.notPlain) :
    byteTransfer s = .next { s with oe := true, sr := Memory.read s.mem s.ptr.toNat, ptr := nextCursor s.ptr s.rpt,
                                    len := s.len - 1#_, cnt := 8, tstate := StateCode.prepareAckNack } :=
  byteTransfer_eq_next.2 ⟨_, loadByPhase_eq_next.2
    (.inr (.inr ⟨phase, loadPayload_eq_next.2 ⟨plainMemory_iff.2 plain, rest, rfl⟩⟩)), rfl⟩

theorem nextTransfer_of_not_zeroLengthStops (goes : ¬ zeroLengthStops s) : nextTransfer s = byteTransfer s :=
  transferUnder_of_not_lengthStops (lengthStops_eq_false_iff.2 goes)

theorem nextTransfer_of_zeroLengthStops (rest : s.cnt = 0) (stops : zeroLengthStops s) :
    nextTransfer s = .next { s with oe := true, sr := 0x00#8, cnt := 1, tstate := StateCode.stop } :=
  (transferUnder_of_lengthStops (lengthStops_iff_zeroLengthStops.2 stops)).trans
    (stopPreparation_eq_next.2 ⟨rest, rfl⟩)

theorem nextTransfer_of_sendAddress (rest : s.cnt = 0) (goes : ¬ zeroLengthStops s)
    (phase : s.phase = PhaseCode.sendAddress) :
    nextTransfer s = .next { s with oe := true, sr := addrByte, phase := PhaseCode.sendControl, cnt := 8,
                                    tstate := StateCode.prepareAckNack } :=
  (nextTransfer_of_not_zeroLengthStops goes).trans (byteTransfer_of_sendAddress rest phase)

theorem nextTransfer_of_sendControl (rest : s.cnt = 0) (goes : ¬ zeroLengthStops s)
    (phase : s.phase = PhaseCode.sendControl) :
    nextTransfer s = .next { s with oe := true, sr := s.ctrl, phase := PhaseCode.sendPayload, cnt := 8,
                                    tstate := StateCode.prepareAckNack } :=
  (nextTransfer_of_not_zeroLengthStops goes).trans (byteTransfer_of_sendControl rest phase)

theorem nextTransfer_of_sendPayload (rest : s.cnt = 0) (nonzero : s.len ≠ 0#_) (phase : s.phase = PhaseCode.sendPayload)
    (plain : s.ptr.toNat ∉ s.notPlain) :
    nextTransfer s = .next { s with oe := true, sr := Memory.read s.mem s.ptr.toNat, ptr := nextCursor s.ptr s.rpt,
                                    len := s.len - 1#_, cnt := 8, tstate := StateCode.prepareAckNack } :=
  (nextTransfer_of_len nonzero).trans (byteTransfer_of_sendPayload rest phase plain)

theorem nextTransfer_of_not_plain (nonzero : s.len ≠ 0#_) (phase : s.phase = PhaseCode.sendPayload)
    (notPlain : s.ptr.toNat ∈ s.notPlain) : nextTransfer s = .refused .payloadNotPlainMemory :=
  (nextTransfer_of_len nonzero).trans (byteTransfer_of_not_plain phase fun plain => plainMemory_iff.1 plain notPlain)

/-- Settles O27: one lemma for each phase, and for `IRQ_START` the refusal in the state after its `START`. -/
theorem prepareTransferLoadsByPhase : Obligations.PrepareTransferLoadsByPhase :=
  ⟨fun s nonzero phase notPlain => ⟨nextTransfer_of_not_plain nonzero phase notPlain,
      nextTransfer_of_not_plain (s := pulseStartLatch (takeInterrupt s)) nonzero phase notPlain⟩,
    fun _ rest => ⟨nextTransfer_of_zeroLengthStops rest, nextTransfer_of_sendAddress rest,
      nextTransfer_of_sendControl rest, nextTransfer_of_sendPayload rest⟩⟩

/-! ## The entries that run `prepareTransfer` -/

/-- Nothing stops the address byte but `LEN = 0` under `every_call` (41_sequencer_steps R97 and its case (c)). -/
theorem not_zeroLengthStops_of_sendAddress (h : s.len ≠ 0#_ ∨ s.zeroLenCheck = .payloadPhaseOnly)
    (phase : s.phase = PhaseCode.sendAddress) : ¬ zeroLengthStops s := by
  rintro ⟨zero, everyCall | payload⟩
  · obtain nonzero | payloadOnly := h
    · exact nonzero zero
    · exact absurd (everyCall.symm.trans payloadOnly) (by decide)
  · exact absurd (phase.symm.trans payload) (by decide)

/-- Settles O21: the entry is `prepareTransfer` after its `START`, which leaves length, phase and count alone. -/
theorem irqStartSendsStartAndTheAddress : Obligations.IrqStartSendsStartAndTheAddress := by
  refine ⟨fun s => rfl, fun s rest goes phase => ?address, fun s rest zero everyCall => ?stop⟩
  case address =>
    exact nextTransfer_of_sendAddress (s := pulseStartLatch (takeInterrupt s)) rest
      (not_zeroLengthStops_of_sendAddress goes phase) phase
  case stop => exact nextTransfer_of_zeroLengthStops (s := pulseStartLatch (takeInterrupt s)) rest ⟨zero, .inl everyCall⟩

theorem exec_irqRxtx_of_ack (ack : s.sr[0] = false) : exec .irqRxtx s = nextTransfer (takeInterrupt s) :=
  if_neg (by simpa [nackBit] using ack)

/-- Settles O24: on ACK the entry is `prepareTransfer` with the flag cleared, which leaves all that decides it alone. -/
theorem irqRxtxOnAckLoadsTheNextByte : Obligations.IrqRxtxOnAckLoadsTheNextByte := by
  refine ⟨fun s ack => exec_irqRxtx_of_ack ack, fun s ack rest stops => ?stop, fun s ack rest goes phase => ?address,
    fun s ack rest goes phase => ?control, fun s ack rest nonzero phase plain => ?payload,
    fun s ack nonzero phase notPlain => ?refused⟩
  all_goals rw [exec_irqRxtx_of_ack ack]
  case stop => exact nextTransfer_of_zeroLengthStops (s := takeInterrupt s) rest stops
  case address => exact nextTransfer_of_sendAddress (s := takeInterrupt s) rest goes phase
  case control => exact nextTransfer_of_sendControl (s := takeInterrupt s) rest goes phase
  case payload => exact nextTransfer_of_sendPayload (s := takeInterrupt s) rest nonzero phase plain
  case refused => exact nextTransfer_of_not_plain (s := takeInterrupt s) nonzero phase notPlain

end Sys2Proof.Machine
end

section
/-! PROOFS. The peripheral primitives and `SHIFT` (42_peripheral_primitives R110 to R121): what each primitive writes, what
the three forms of `SHIFT` leave, when the peripheral has no step, and which operations a shift in flight refuses. -/

namespace Sys2Proof.Machine

open Sys2Proof.Safety

variable {s : State}

/-! ## The enabling condition (R120) -/

theorem peripheralEnabled_eq_false : peripheralEnabled s = false ↔ s.cfg = false ∨ s.cnt = 0 := by
  simp only [← Bool.not_eq_true, peripheralEnabled_iff, not_and_or, not_not]

/-- Settles O11: passing the turn leaves the enabling condition alone, and without it the peripheral's turn does nothing. -/
theorem uncommandedPeripheralTakesNoStep : Obligations.UncommandedPeripheralTakesNoStep := by
  intro s h uncommanded
  have off : peripheralEnabled (passTurn s) = false := by
    rw [peripheralEnabled_eq_false, passTurn_cfg, passTurn_cnt]
    exact uncommanded
  rw [step_of_moves h]
  exact if_neg (ne_true_of_eq_false off)

/-! ## The primitives that always complete -/

/-- Settles O34: each primitive is one assignment, and the latch is 0 again after its `START` is logged. -/
theorem registerPrimitivesWriteTheirRegister : Obligations.RegisterPrimitivesWriteTheirRegister :=
  ⟨fun _ => rfl, fun _ _ => rfl, fun _ => rfl, fun _ => rfl, fun _ => rfl, fun _ => rfl, fun _ => rfl⟩

/-- Settles O36: the resets, the draw and the three settings write different registers, so their order does not show. -/
theorem configurePeripheralResetsIt : Obligations.ConfigurePeripheralResetsIt := fun _ _ _ => rfl

/-! ## The three forms of `SHIFT` (R120) -/

/-- Settles O37: the forms leave states given by their fields; after the ACK slot bit 0 of `SR` is the slave's answer. -/
theorem shiftMovesTheCommandedBits : Obligations.ShiftMovesTheCommandedBits := by
  intro s
  have answer : (ackRegister (Config.freeSevenBits s.draws) (slaveAnswer s s.nackslot))[0] = slaveAnswer s s.nackslot :=
    nackBit_ackRegister _ _
  exact ⟨rfl, ⟨_, rfl, answer, rfl⟩, rfl⟩

/-! ## A load with a shift in flight (R110, log 16) -/

/-- `PHASE` names a load that reaches the shift register: the payload's comes after the test of its address
(20_memory R42). -/
def phaseReachesLoad (s : State) : Prop :=
  s.phase = PhaseCode.sendAddress ∨ s.phase = PhaseCode.sendControl ∨
    (s.phase = PhaseCode.sendPayload ∧ s.ptr.toNat ∉ s.notPlain)

section
variable (inFlight : s.cnt ≠ 0)
include inFlight

theorem loadSR_of_shift (b : Byte) : loadSR b s = .refused .loadDuringShift := if_neg inFlight

theorem loadAddress_of_shift : loadAddress s = .refused .loadDuringShift := by
  rw [loadAddress, loadSR_of_shift inFlight, andThen_refused]

theorem loadControl_of_shift : loadControl s = .refused .loadDuringShift := by
  rw [loadControl, loadSR_of_shift inFlight, andThen_refused]

theorem loadPayload_of_shift (plain : s.ptr.toNat ∉ s.notPlain) : loadPayload s = .refused .loadDuringShift := by
  rw [loadPayload, readPayload, if_pos (plainMemory_iff.2 plain), loadSR_of_shift inFlight, andThen_refused]

theorem stopPreparation_of_shift : stopPreparation s = .refused .loadDuringShift := by
  rw [stopPreparation, loadSR_of_shift (s := setOE true s) inFlight, andThen_refused]

theorem loadByPhase_of_shift (reaches : phaseReachesLoad s) : loadByPhase s = .refused .loadDuringShift := by
  obtain address | control | ⟨payload, plain⟩ := reaches
  · exact (if_pos address).trans (loadAddress_of_shift inFlight)
  · have dispatch : loadByPhase s = loadControl s := by
      simp [loadByPhase, control, PhaseCode.sendAddress, PhaseCode.sendControl]
    exact dispatch.trans (loadControl_of_shift inFlight)
  · have dispatch : loadByPhase s = loadPayload s := by
      simp [loadByPhase, payload, PhaseCode.sendAddress, PhaseCode.sendControl, PhaseCode.sendPayload]
    exact dispatch.trans (loadPayload_of_shift inFlight plain)

theorem byteTransfer_of_shift (reaches : phaseReachesLoad s) : byteTransfer s = .refused .loadDuringShift := by
  rw [byteTransfer, loadByPhase_of_shift (s := setOE true s) inFlight reaches, andThen_refused]

/-- `prepareTransfer` comes to a load on either way of R97: the stop's, or the one `PHASE` names. -/
theorem nextTransfer_of_shift (comes : zeroLengthStops s ∨ phaseReachesLoad s) :
    nextTransfer s = .refused .loadDuringShift := by
  rw [nextTransfer_eq]
  split_ifs with stops
  · exact stopPreparation_of_shift inFlight
  · exact byteTransfer_of_shift inFlight (comes.resolve_left (mt lengthStops_iff_zeroLengthStops.2 stops))

theorem exec_irqRxtx_of_nack_of_shift (nack : s.sr[0] = true) : exec .irqRxtx s = .refused .loadDuringShift :=
  (if_pos nack).trans (stopPreparation_of_shift (s := takeInterrupt s) inFlight)

end

/-- Settles O33: the load itself and, by way of it, every operation that comes to one; `IRQ_RXTX` does so on NACK and on
ACK. -/
theorem loadingIsRefusedDuringAShift : Obligations.LoadingIsRefusedDuringAShift := by
  refine ⟨fun s b rest => loadSR_of_cnt rest b, fun s b inFlight => loadSR_of_shift inFlight b,
    fun s inFlight i hi => ?always, fun s inFlight plain => loadPayload_of_shift inFlight plain,
    fun s inFlight comes i hi => ?transfer, fun s inFlight nack => exec_irqRxtx_of_nack_of_shift inFlight nack⟩
  all_goals simp only [List.mem_cons, List.not_mem_nil, or_false] at hi
  case always =>
    obtain rfl | rfl | rfl | rfl := hi
    · exact loadAddress_of_shift inFlight
    · exact loadControl_of_shift inFlight
    · exact stopPreparation_of_shift inFlight
    · exact stopPreparation_of_shift (s := takeInterrupt s) inFlight
  case transfer =>
    obtain rfl | rfl | rfl := hi
    · exact nextTransfer_of_shift inFlight comes
    · exact nextTransfer_of_shift (s := pulseStartLatch (takeInterrupt s)) inFlight comes
    · cases answer : s.sr[0] with
      | true => exact exec_irqRxtx_of_nack_of_shift inFlight answer
      | false => exact (exec_irqRxtx_of_ack answer).trans (nextTransfer_of_shift (s := takeInterrupt s) inFlight comes)

end Sys2Proof.Machine
end

section
/-! PROOFS. The host's side of a wait and of a transaction (43_command_layer): `WAITIDLE` and `SLEEP` step by step
(R135), and the pseudo-operations, which write their bytes, submit once and wait (R130 to R134). -/

namespace Sys2Proof.Machine

open Sys2Proof.Safety

variable {s : State}

/-! ## `WAITIDLE` and `SLEEP` -/

/-- A running host sleeps on exactly the mask it is given. -/
theorem sleepHost_of_running (mask : WakeMask) (running : s.sleepcond = 0#_) :
    sleepHost mask s = { s with sleepcond := mask } := by
  rw [sleepHost, running, BitVec.zero_or]

theorem recordIdle_of_idle (idle : isIdle s = true) : recordIdle s = { s with idleOut := true } := by
  rw [recordIdle, idle]

theorem recordIdle_of_busy (busy : isIdle s = false) : recordIdle s = { s with idleOut := false } := by
  rw [recordIdle, busy]

/-- Step `A` records the answer of `ISIDLE`, and the same answer decides where the host goes on. -/
theorem waitStep_eq (mask : WakeMask) (rest : List HostAct) :
    waitStep mask rest s =
      if isIdle s then .next { recordIdle s with program := rest }
      else if Config.waitAtomic then .next (sleepHost mask (recordIdle s))
      else .next { recordIdle s with program := .waitSleep mask :: rest } := rfl

/-- Settles O46: the turn is the host's next action; step `A` branches on `Idle`, then on `WAIT_ATOMIC`. -/
theorem waitIdleChecksThenSleeps : Obligations.WaitIdleChecksThenSleeps := by
  intro s mask rest h running
  have running' : (passTurn s).sleepcond = 0#_ := (passTurn_sleepcond s).trans running
  refine ⟨fun hp idle => ?returns, fun hp busy => ?goesOn, fun hp => ?stepB, fun hp => ?sleeps⟩ <;>
    rw [step_of_hostAction h running hp, hostAction]
  case returns =>
    have answer : isIdle (passTurn s) = true := isIdle_iff.2 ((passTurn_tstate s).trans idle)
    rw [waitStep_eq, if_pos answer, recordIdle_of_idle answer]
  case goesOn =>
    have answer : isIdle (passTurn s) = false := by
      rw [← Bool.not_eq_true, isIdle_iff, passTurn_tstate]
      exact busy
    rw [waitStep_eq, if_neg (ne_true_of_eq_false answer), recordIdle_of_busy answer,
      sleepHost_of_running mask (by exact running')]
    exact (apply_ite Host.Outcome.next _ _ _).symm
  case stepB => rw [sleepHost_of_running mask running']
  case sleeps => rw [sleepHost_of_running mask running']

/-! ## The pseudo-operations -/

/-- A configured engine in `Idle` with a running host, where the Command Layer starts (43_command_layer R130). -/
structure HostReady (s : State) : Prop where
  nothingDirect : s.direct = none
  running : s.sleepcond = 0#_
  configured : s.cfg = true
  idle : s.tstate = StateCode.idle

/-- The host's turn runs the next action of its program. -/
theorem HostReady.step_of_act {act : HostAct} {rest : List HostAct} {later : List Agent} (ready : HostReady s)
    (hp : s.program = act :: rest) (hs : s.sched = .host :: later) :
    step s = hostAction act rest { s with sched := later } := by
  rw [step_of_sched ready.nothingDirect hs]
  exact hostTurn_of_action ready.running hp

/-- In `Idle` a host write is never refused. -/
theorem HostReady.step_of_memWrite {a : Addr} {b : Byte} {rest : List HostAct} {later : List Agent}
    (ready : HostReady s) (hp : s.program = .memWrite a b :: rest) (hs : s.sched = .host :: later) :
    step s = .next { s with mem := Memory.write s.mem a.toNat b, program := rest, sched := later } := by
  have written := hostWrite_eq_next (s := { s with sched := later }) (a := a) (b := b).2
    ⟨.inl (isIdle_iff.2 ready.idle), rfl⟩
  rw [ready.step_of_act hp hs, hostAction, written, andThen_next]

/-- A `SUBMIT` with a legal control byte and a range that does not wrap records its transaction. -/
theorem HostReady.step_of_submitAct {ctrl : Byte} {ptr : Addr} {len : Len} {rpt : Bool} {wmask : WakeMask}
    {rest : List HostAct} {later : List Agent} (ready : HostReady s) (legal : ctrl = 0x00#8 ∨ ctrl = 0x40#8)
    (fits : rpt = true ∨ len.toNat = 0 ∨ ptr.toNat + len.toNat - 1 < 2 ^ Config.addrW)
    (hp : s.program = submitAct ctrl ptr len rpt wmask :: rest) (hs : s.sched = .host :: later) :
    step s = .next { recordTransaction ctrl ptr len rpt wmask s with program := rest, sched := later } := by
  have idle : isIdle s = true := isIdle_iff.2 ready.idle
  have accepted : submitRefusal ctrl ptr len rpt { s with sched := later } = none :=
    submitRefusal_eq_none.2 ⟨ready.configured, legalControlByte_iff.2 legal, payloadWraps_eq_false.2 fits⟩
  have goes : holds (.submit ctrl ptr len rpt wmask) { s with sched := later } = false := by
    rw [← Bool.not_eq_true, holds_submit_iff]
    exact fun ⟨_, busy⟩ => absurd idle (ne_true_of_eq_false busy)
  have recorded := execSubmit_eq_next (wmask := wmask).2 ⟨accepted, (if_pos idle).symm⟩
  rw [ready.step_of_act hp hs, submitAct, hostAction, hostCommand_of_decode rfl goes]
  exact congrArg (andThen · _) recorded

/-- Host memory after the bytes are written in order. -/
def writeBytes (m : Memory) (bytes : List (Addr × Byte)) : Memory :=
  bytes.foldl (fun m w => Memory.write m w.1.toNat w.2) m

/-- The form of every expansion of R131 to R134: the bytes are written one host step each, then one `SUBMIT`. -/
theorem HostReady.steps_of_writes_submit {bytes : List (Addr × Byte)} {ctrl : Byte} {ptr : Addr} {len : Len}
    {rpt : Bool} {rest : List HostAct} {later : List Agent} (ready : HostReady s)
    (legal : ctrl = 0x00#8 ∨ ctrl = 0x40#8)
    (fits : rpt = true ∨ len.toNat = 0 ∨ ptr.toNat + len.toNat - 1 < 2 ^ Config.addrW)
    (hp : s.program = bytes.map (fun w => .memWrite w.1 w.2) ++
      submitAct ctrl ptr len rpt Config.clWakeMask :: .waitIdle Config.clWakeMask :: rest)
    (hs : s.sched = List.replicate bytes.length .host ++ .host :: later) :
    ∃ t, steps (bytes.length + 1) s = .next t ∧ awaiting ctrl ptr len rpt rest t ∧ t.mem = writeBytes s.mem bytes := by
  induction bytes generalizing s with
  | nil =>
    exact ⟨_, steps_of_step (ready.step_of_submitAct legal fits hp hs) rfl,
      ⟨rfl, rfl, rfl, rfl, rfl, rfl, rfl, rfl, rfl⟩, rfl⟩
  | cons w bytes ih =>
    obtain ⟨t, ht, waits, mem⟩ := ih (s := { s with
        mem := Memory.write s.mem w.1.toNat w.2
        program := bytes.map (fun w => .memWrite w.1 w.2) ++
          submitAct ctrl ptr len rpt Config.clWakeMask :: .waitIdle Config.clWakeMask :: rest
        sched := List.replicate bytes.length .host ++ .host :: later })
      ⟨ready.nothingDirect, ready.running, ready.configured, ready.idle⟩ rfl rfl
    exact ⟨t, steps_of_step (ready.step_of_memWrite hp hs) ht, waits, mem⟩

/-- A payload of at most two bytes at `CL_TMP` does not wrap. -/
theorem clTmp_fits {len : Len} (short : len.toNat ≤ 2) : Config.clTmp.toNat + len.toNat - 1 < 2 ^ Config.addrW := by
  have := clTmp_add_one ▸ (Config.clTmp + 1#_).isLt
  omega

/-- What a read returns after a write, at any address. -/
theorem Memory.read_write (m : Memory) (a x : Nat) (b : Byte) :
    Memory.read (Memory.write m a b) x = if x = a then b else Memory.read m x := by
  split_ifs with same
  · rw [same, Memory.read_write_same]
  · exact Memory.read_write_other b same

/-- Settles O50: each pseudo-operation is some writes of bytes and a `SUBMIT`; the two bytes of `sendCommand2` stand at
different addresses. -/
theorem commandLayerSubmitsOneTransaction : Obligations.CommandLayerSubmitsOneTransaction := by
  intro s rest later nothingDirect running configured idle
  have ready : HostReady s := ⟨nothingDirect, running, configured, idle⟩
  refine ⟨fun b hp hs => ?command, fun b c hp hs => ?command2, fun buf n fits hp hs => ?data,
    fun b n hp hs => ?repeated⟩
  case command =>
    have short : (1#Config.lenW).toNat ≤ 2 := (Nat.mod_le _ _).trans (by decide)
    obtain ⟨t, ht, waits, mem⟩ := ready.steps_of_writes_submit (bytes := [(Config.clTmp, b)]) (.inl rfl)
      (.inr (.inr (clTmp_fits short))) hp hs
    exact ⟨t, ht, waits, fun a => by rw [mem]; exact Memory.read_write ..⟩
  case command2 =>
    have short : (2#Config.lenW).toNat ≤ 2 := Nat.mod_le _ _
    obtain ⟨t, ht, waits, mem⟩ := ready.steps_of_writes_submit
      (bytes := [(Config.clTmp, b), (Config.clTmp + 1#_, c)]) (.inl rfl) (.inr (.inr (clTmp_fits short))) hp hs
    refine ⟨t, ht, waits, fun a => ?_⟩
    rw [mem, writeBytes, List.foldl_cons, List.foldl_cons, List.foldl_nil, Memory.read_write, Memory.read_write,
      clTmp_add_one]
    by_cases low : a = Config.clTmp.toNat
    · rw [if_neg (by omega), if_pos low, if_pos low]
    · rw [if_neg low, if_neg low]
  case data => exact ready.steps_of_writes_submit (bytes := []) (.inr rfl) (.inr fits) hp hs
  case repeated =>
    obtain ⟨t, ht, waits, mem⟩ := ready.steps_of_writes_submit (bytes := [(Config.clTmp, b)]) (.inr rfl)
      (.inl rfl) hp hs
    exact ⟨t, ht, waits, fun a => by rw [mem]; exact Memory.read_write ..⟩

end Sys2Proof.Machine
end

section
/-! PROOFS. The environment's injected interrupt (60_exceptions R147), and a host asleep with the engine in `Idle`, which
nothing wakes (60_exceptions R154, 70 R180). -/

namespace Sys2Proof.Safety

open Sys2Proof.Machine

variable {s t : State}

/-! ## `INJECT` -/

/-- With an injection left, the environment's turn by `TSTATE` and `CNT` (60_exceptions R147). -/
theorem environmentTurn_of_injects {n : Nat} (left : s.injects = n + 1) :
    environmentTurn s =
      if s.tstate = StateCode.idle ∧ s.cnt = 0 then .next { s with ifg := true, injects := n }
      else .refused .injectedInterruptInFlight := by
  have turned : environmentTurn s = andThen (inject s) fun t => .next { t with injects := n } := by
    simp only [environmentTurn, left]
  rw [turned]
  split_ifs with quiet
  · rw [inject_eq_next.2 ⟨isIdle_iff.2 quiet.1, quiet.2, rfl⟩, andThen_next]
  · have refused : inject s = .refused .injectedInterruptInFlight :=
      if_neg fun admitted => quiet (by simpa [isIdle_iff] using admitted)
    rw [refused, andThen_refused]

/-- Settles O47: passing the turn leaves `TSTATE` and `CNT` alone, and they decide the environment's turn. -/
theorem injectionOnlyInIdle : Obligations.InjectionOnlyInIdle := by
  intro s n h left
  rw [step_of_moves h, ← passTurn_tstate s, ← passTurn_cnt s]
  exact environmentTurn_of_injects ((passTurn_injects s).trans left)

/-! ## A host asleep in `Idle` (R154) -/

/-- In `Idle` the sequencer rests or clears the flag: every other entry has a code of its own. -/
theorem TurnOutcome.sequencer_of_idle (idle : s.tstate = StateCode.idle) (o : TurnOutcome s .sequencer t) :
    ∃ ifg, t = { s with ifg := ifg } := by
  cases o with
  | sequencerRests => exact ⟨s.ifg, rfl⟩
  | irqIdle => exact ⟨false, rfl⟩
  | irqStart _ code | irqPrepack _ code | irqRxtxNack _ code | irqRxtxAck _ code | irqPrepstop _ code
  | irqStop _ _ _ code => exact absurd (idle.symm.trans code) (by decide)

/-- With no shift commanded the peripheral rests. -/
theorem TurnOutcome.peripheral_of_cnt (rest : s.cnt = 0) (o : TurnOutcome s .peripheral t) : t = s := by
  cases o with
  | peripheralRests => rfl
  | shiftTx8 on | shiftRx1 on | shiftTx1 on => exact absurd rest (peripheralEnabled_iff.1 on).2

/-- All that a step can change under a host asleep in `Idle`: the turn is taken off the schedule, an injection sets the
flag and `IRQ_IDLE` clears it. -/
theorem AsleepForGood.step_effect (asleep : AsleepForGood s) (h : step s = .next t) :
    ∃ sched draws ifg injects, t = { s with sched := sched, draws := draws, ifg := ifg, injects := injects } := by
  obtain ⟨nothingDirect, sleeping, idle, rest⟩ := asleep
  obtain ⟨sched, draws, o⟩ := step_outcome nothingDirect h
  cases agent : turn s <;> rw [agent] at o
  case host =>
    obtain rfl := next_eq_next.1 ((sleepingHostTakesNoStep s ⟨nothingDirect, agent⟩ sleeping).symm.trans h)
    obtain ⟨sched, draws, passed⟩ := passTurn_eq s
    exact ⟨sched, draws, s.ifg, s.injects, passed⟩
  case sequencer =>
    obtain ⟨ifg, rfl⟩ := o.sequencer_of_idle (by exact idle)
    exact ⟨sched, draws, ifg, s.injects, rfl⟩
  case peripheral =>
    obtain rfl := o.peripheral_of_cnt (by exact rest)
    exact ⟨sched, draws, s.ifg, s.injects, rfl⟩
  case environment =>
    cases o with
    | environmentRests => exact ⟨sched, draws, s.ifg, s.injects, rfl⟩
    | inject left => exact ⟨sched, draws, true, left, rfl⟩

/-- Settles O48: what a step can change is neither in the condition nor among the elements the statement names. -/
theorem hostAsleepInIdleIsNeverWoken : Obligations.HostAsleepInIdleIsNeverWoken := by
  intro s t asleep h
  obtain ⟨sched, draws, ifg, injects, rfl⟩ := asleep.step_effect h
  exact ⟨asleep, rfl, rfl, rfl, rfl⟩

end Sys2Proof.Safety
end

section
/-! PROOFS. Liveness (70 R179): a busy engine has one agent with a step until that agent takes it, fairness brings the
agent's turn, and each such step takes from the work left, so no endless fair run stays busy. -/

namespace Sys2Proof.Safety

open Sys2Proof.Machine

variable {s t : State} {tr : Nat → State} {n m : Nat}

/-- In a busy machine a turn that is no step of the engine leaves sequencer and peripheral as they were, with a step or
without. -/
theorem TurnOutcome.keeps_enabled {a e : Agent} (engine : e = .sequencer ∨ e = .peripheral) (inv : ControlInv s)
    (busy : s.tstate ≠ StateCode.idle) (still : ¬ engineMoves a s) (o : TurnOutcome s a t) :
    enabled e t = enabled e s := by
  cases o with
  | sequencerRests | peripheralRests | environmentRests => rfl
  | outside => obtain rfl | rfl := engine <;> rfl
  | init _ _ _ unconfigured => exact absurd (inv.idleUntilConfigured unconfigured) busy
  | submit _ _ _ _ _ _ _ atIdle | inject _ _ atIdle => exact absurd atIdle busy
  | irqIdle on | irqStart on | irqPrepack on | irqRxtxNack on | irqRxtxAck on | irqPrepstop on | irqStop _ _ on =>
    exact absurd (engineMoves_sequencer.2 on) still
  | shiftTx8 on | shiftRx1 on | shiftTx1 on => exact absurd (engineMoves_peripheral.2 on) still

/-- Until the engine takes a step, the agent of the two that has one keeps it. -/
theorem step_keeps_enabled {e : Agent} (engine : e = .sequencer ∨ e = .peripheral) (inv : ControlInv s)
    (busy : s.tstate ≠ StateCode.idle) (still : ¬ engineMoves (turn s) s) (h : step s = .next t) :
    enabled e t = enabled e s := by
  obtain ⟨sched, draws, o⟩ := step_outcome inv.nothingDirect h
  have kept : enabled e { s with sched := sched, draws := draws } = enabled e s := by
    obtain rfl | rfl := engine <;> rfl
  refine (o.keeps_enabled engine (inv.turnTaken sched draws) busy ?_).trans kept
  rintro ⟨on, mover⟩
  refine still ⟨?_, mover⟩
  generalize turn s = a at on mover
  obtain rfl | rfl := mover <;> exact on

/-- While a transaction runs, sequencer or peripheral has a step. -/
theorem ControlInv.exists_enabled (inv : ControlInv s) (busy : s.tstate ≠ StateCode.idle) :
    ∃ e, (e = .sequencer ∨ e = .peripheral) ∧ enabled e s = true := by
  have one := inv.sequencerEnabled_eq busy
  cases on : peripheralEnabled s with
  | true => exact ⟨.peripheral, .inr rfl, on⟩
  | false => exact ⟨.sequencer, .inl rfl, by rw [enabled, one, on, Bool.not_false]⟩

/-- The control invariant holds all along a run from a state that meets it. -/
theorem Run.controlInv (run : Run tr) (start : ControlInv (tr 0)) (n : Nat) : ControlInv (tr n) := by
  induction n with
  | zero => exact start
  | succ n ih => exact stepsKeepTheControlInvariant _ _ ih (run n)

section
variable (run : Run tr) (inv : ∀ m, ControlInv (tr m)) (busy : ∀ m, n ≤ m → (tr m).tstate ≠ StateCode.idle)
include run inv busy

/-- From a point on where the engine stays busy, the work left never grows. -/
theorem Run.workLeft_le (later : n ≤ m) : workLeft (tr m) ≤ workLeft (tr n) := by
  induction m, later using Nat.le_induction with
  | base => exact le_rfl
  | succ m later ih =>
    have spends := eachEngineStepSpendsWork.2.1 _ _ (inv m) (busy m later) (run m)
    split_ifs at spends <;> omega

/-- From a point on where the engine stays busy, fairness makes it take a step: an agent of the two that has one keeps it,
and is given its turn. -/
theorem Run.exists_engineMoves (fairSequencer : WeaklyFair .sequencer tr) (fairPeripheral : WeaklyFair .peripheral tr) :
    ∃ m, n ≤ m ∧ engineMoves (turn (tr m)) (tr m) := by
  by_contra! still
  obtain ⟨e, engine, on⟩ := (inv n).exists_enabled (busy n le_rfl)
  have stays : ∀ m, n ≤ m → enabled e (tr m) = true := by
    intro m later
    induction m, later using Nat.le_induction with
    | base => exact on
    | succ m later ih =>
      exact (step_keeps_enabled engine (inv m) (busy m later) (still m later) (run m)).trans ih
  have fair : WeaklyFair e tr := by obtain rfl | rfl := engine <;> assumption
  obtain ⟨m, later, _, moves⟩ := fair n stays
  exact still m later ⟨moves ▸ stays m later, moves ▸ engine⟩

end

/-- A fair run does not stay busy: the work left would fall without end. -/
theorem Run.not_always_busy (run : Run tr) (inv : ∀ m, ControlInv (tr m)) (fairSequencer : WeaklyFair .sequencer tr)
    (fairPeripheral : WeaklyFair .peripheral tr) (n : Nat) : ¬ ∀ m, n ≤ m → (tr m).tstate ≠ StateCode.idle := by
  induction work : workLeft (tr n) using Nat.strong_induction_on generalizing n with
  | _ w ih =>
    intro busy
    obtain ⟨m, later, moves⟩ := run.exists_engineMoves inv busy fairSequencer fairPeripheral
    have bounded := run.workLeft_le inv busy later
    have spends := (if_pos moves).mp (eachEngineStepSpendsWork.2.1 _ _ (inv m) (busy m later) (run m))
    exact ih _ (by omega) (m + 1) rfl fun k hk => busy k (by omega)

/-- Settles O58: the control invariant holds along the run, and a fair run from it does not stay busy. -/
theorem fairRunsReturnToIdle : Obligations.FairRunsReturnToIdle := by
  intro tr run start fairSequencer fairPeripheral n
  by_contra! busy
  exact run.not_always_busy (run.controlInv start) fairSequencer fairPeripheral n busy

end Sys2Proof.Safety
end

section
/-! PROOFS. The end of a run (70 R180): an agent with no step lets the turn pass, and a run is over where the host has no
step and the engine is quiescent. -/

namespace Sys2Proof.Safety

open Sys2Proof.Machine

variable {s : State}

/-! ## An agent with no step (00_scope R8) -/

/-- A host with no step sleeps, is at the end of its program, or is held by its `SUBMIT`; in each case its turn does
nothing. -/
theorem hostTurn_of_not_enabled (off : hostEnabled s = false) : hostTurn s = .next s := by
  unfold hostTurn
  split
  · rename_i running
    simp only [hostEnabled, running, Bool.true_and] at off
    split
    · rfl
    · rename_i act rest program
      rw [program] at off
      cases act with
      | command cmd ports =>
        simp only at off
        split at off
        · rename_i i selects
          exact hostCommand_of_holds selects (by simpa using off)
        · exact absurd off (by decide)
      | memWrite | sleep | waitIdle | waitSleep => simp at off
  · rfl

theorem agentTurn_of_not_enabled {a : Agent} (off : enabled a s = false) : agentTurn a s = .next s := by
  cases a with
  | host => exact hostTurn_of_not_enabled off
  | sequencer => exact if_neg (ne_true_of_eq_false off)
  | peripheral => exact if_neg (ne_true_of_eq_false off)
  | environment =>
    have spent : s.injects = 0 := by simpa [enabled] using off
    simp [agentTurn, environmentTurn, spent]

/-- Whether an agent has a step does not depend on the schedule. -/
theorem enabled_passTurn (a : Agent) (s : State) : enabled a (passTurn s) = enabled a s := by
  obtain ⟨sched, draws, passed⟩ := passTurn_eq s
  rw [passed]
  cases a <;> rfl

/-- The step of an agent that has none only passes the turn. -/
theorem step_of_not_enabled (free : s.direct = none) (off : enabled (turn s) s = false) :
    step s = .next (passTurn s) := by
  rw [step_of_turn free]
  exact agentTurn_of_not_enabled ((enabled_passTurn _ s).trans off)

/-! ## A run that is over -/

theorem quiescent_iff : quiescent s = true ↔ s.tstate = StateCode.idle ∧ s.cnt = 0 ∧ s.ifg = false := by
  simp [quiescent, isIdle_iff, and_assoc]

theorem finished_iff :
    finished s = true ↔
      s.program = [] ∧ s.sleepcond = 0#_ ∧ s.tstate = StateCode.idle ∧ s.cnt = 0 ∧ s.ifg = false := by
  simp only [finished, Bool.and_eq_true, List.isEmpty_iff, hostRunning_iff, quiescent_iff, and_assoc]

theorem deadlocked_iff :
    deadlocked s = true ↔ s.sleepcond ≠ 0#_ ∧ s.tstate = StateCode.idle ∧ s.cnt = 0 ∧ s.ifg = false := by
  simp only [deadlocked, Bool.and_eq_true, Bool.not_eq_true', ← Bool.not_eq_true, hostRunning_iff, quiescent_iff]

theorem runOver_eq_finished_bne_deadlocked (s : State) : runOver s = (finished s != deadlocked s) := by
  unfold runOver finished deadlocked
  cases hostRunning s <;> simp

theorem finished_passTurn (s : State) : finished (passTurn s) = finished s := by
  simp [finished, quiescent, isIdle, hostRunning]

theorem deadlocked_passTurn (s : State) : deadlocked (passTurn s) = deadlocked s := by
  simp [deadlocked, quiescent, isIdle, hostRunning]

/-- In `Idle` no `SUBMIT` holds, so a running host has a step as long as it has an action. -/
theorem hostEnabled_of_idle (idle : s.tstate = StateCode.idle) :
    hostEnabled s = (hostRunning s && !s.program.isEmpty) := by
  have holdsNot (i : Instr) : holds i s = false := by
    cases i <;> simp [holds, isIdle_iff.2 idle]
  unfold hostEnabled
  congr 1
  cases s.program with
  | nil => rfl
  | cons act rest =>
    cases act with
    | command => simp only [holdsNot]; split <;> rfl
    | memWrite | sleep | waitIdle | waitSleep => rfl

/-- The run is over where the host has no step and the engine is quiescent. -/
theorem runOver_iff : runOver s = true ↔ hostEnabled s = false ∧ quiescent s = true := by
  rw [runOver, Bool.and_eq_true]
  refine and_congr_left fun quiet => ?_
  rw [hostEnabled_of_idle (quiescent_iff.1 quiet).1]
  cases hostRunning s <;> simp

/-- Once the run is over and nothing is to be injected, no agent has a step. -/
theorem not_enabled_of_runOver (spent : s.injects = 0) (isOver : runOver s = true) (a : Agent) : enabled a s = false := by
  obtain ⟨host, quiet⟩ := runOver_iff.1 isOver
  obtain ⟨_, rest, flag⟩ := quiescent_iff.1 quiet
  cases a with
  | host => exact host
  | sequencer => exact sequencerEnabled_eq_false.2 (.inl flag)
  | peripheral => exact peripheralEnabled_eq_false.2 (.inr rest)
  | environment => simp [enabled, spent]

/-- A configured engine whose two agents have no step is quiescent: it is not busy, and `Idle` is quiet. -/
theorem ControlInv.quiescent_of_not_enabled (inv : ControlInv s) (quiet : QuietIdle s) (configured : s.cfg = true)
    (off : ∀ a, enabled a s = false) : quiescent s = true := by
  have idle : s.tstate = StateCode.idle := by
    by_contra busy
    obtain ⟨e, _, on⟩ := inv.exists_enabled busy
    exact absurd on (ne_true_of_eq_false (off e))
  obtain ⟨flag, rest⟩ := quiet.2 configured idle
  exact quiescent_iff.2 ⟨idle, rest, flag⟩

/-- Settles O59: what is over has no agent with a step, so a step only passes the turn; and without a step the invariants
leave the engine quiescent. -/
theorem finishedRunsStayFinished : Obligations.FinishedRunsStayFinished := by
  refine ⟨fun s free spent isOver => ?_, fun s inv quiet configured => ⟨?_, fun off => ?_⟩,
    runOver_eq_finished_bne_deadlocked, fun _ => finished_iff, fun _ => deadlocked_iff⟩
  · have off := not_enabled_of_runOver spent isOver
    exact ⟨off, step_of_not_enabled free (off _), finished_passTurn s, deadlocked_passTurn s⟩
  · exact not_enabled_of_runOver quiet.1
  · exact runOver_iff.2 ⟨off .host, inv.quiescent_of_not_enabled quiet configured off⟩

end Sys2Proof.Safety
end
